-- ==== Sys2Proof/Word.lean ====
section
/-! DEFINITION. The word types of the op port and of the channels (`30_encoding.md` R90, R96, `10_state.md` R54).
Only what the spec treats as bits is a bit vector: times, counts and frequencies are natural numbers. -/

namespace Sys2Proof

/-- A byte: an operand field of the operation word, or one channel transfer (`20_memory.md` R80). -/
abbrev Byte := BitVec 8

/-- The 32-bit operation word (`30_encoding.md` R90, R91). -/
abbrev OpWord := BitVec 32

/-- The 16-bit result word `RES` (`30_encoding.md` R96). -/
abbrev ResultWord := BitVec 16

/-- The 8-bit fault register `FAULT` (`10_state.md` R54). -/
abbrev FaultWord := BitVec 8

end Sys2Proof
end

