-- ==== Sys2Proof/Config.lean ====
section
/-! DEFINITION. The configuration of `00_scope.md` R10: what an implementation fixes once. OPEN parameters are the fields
of `Config`; every meaning reads them from the state's `cfg`, which no step writes, so a claim about every state holds for
every admitted value. The configuration of the reset state fills them with opaque constants, which have no body. -/

namespace Sys2Proof

/-- The six logical inputs of the debouncer, in the order of `00_scope.md` R15. -/
inductive Input where
  | jumper | debugButton | sensorExtremeUp | sensorUp | sensorDown | sensorSafety
deriving DecidableEq, Repr

/-- One value per logical input: the sensor record file, the cached flags, the raw levels, the active levels. -/
@[ext] structure PerInput (α : Type) where
  jumper : α
  debugButton : α
  sensorExtremeUp : α
  sensorUp : α
  sensorDown : α
  sensorSafety : α
deriving DecidableEq, Repr

/-- The value of input `i`. -/
def PerInput.get {α : Type} (p : PerInput α) : Input → α
  | .jumper => p.jumper
  | .debugButton => p.debugButton
  | .sensorExtremeUp => p.sensorExtremeUp
  | .sensorUp => p.sensorUp
  | .sensorDown => p.sensorDown
  | .sensorSafety => p.sensorSafety

/-- One value computed for each input (the spec's `for i in 0..5`). -/
def PerInput.ofFn {α : Type} (f : Input → α) : PerInput α :=
  ⟨f .jumper, f .debugButton, f .sensorExtremeUp, f .sensorUp, f .sensorDown, f .sensorSafety⟩

/-- The same value for all six inputs. -/
def PerInput.all {α : Type} (a : α) : PerInput α := .ofFn fun _ => a

/-- The value of input `i` replaced. -/
def PerInput.set {α : Type} (p : PerInput α) (i : Input) (a : α) : PerInput α :=
  .ofFn fun j => if j = i then a else p.get j

/-- `P_DUMP_TERMINATOR`: the bytes after `>` in a dump, one of three choices (`00_scope.md` R10). -/
inductive Terminator where
  | empty | lf | crLf
deriving DecidableEq, Repr, Inhabited

/-- The configuration of `00_scope.md` R10. The thresholds are fixed by the spec and stand in `Machine/Flags.lean`. -/
structure Config where
  /-- `ACTIVE_LEVEL[i]`, OPEN (`10_state.md` R34). -/
  activeLevel : PerInput Bool
  /-- `P_JUMPER_OVERRIDE` (`10_state.md` R33). -/
  jumperOverride : Bool
  /-- `P_COUNT_BITS`, OPEN, at least 1. -/
  countBits : Nat
  /-- `P_FREQ_BITS`, OPEN, at least 1. -/
  freqBits : Nat
  /-- `P_DUTY_HALF`, OPEN: the number written for `Half` (`20_memory.md` R74). -/
  dutyHalf : Nat
  /-- `P_LOCK_REENGAGES`, OPEN (`41_motor.md` R153). -/
  lockReengages : Bool
  /-- `P_RX_DEPTH`, OPEN, at least 1 (`20_memory.md` R77). -/
  rxDepth : Nat
  /-- `P_DUMP_TERMINATOR`, OPEN (`43_channels.md` R231). -/
  terminator : Terminator
deriving DecidableEq, Repr

/-- The values `00_scope.md` R10 admits: the two widths and the queue depth are integers of at least 1. -/
abbrev Config.Admitted (c : Config) : Prop := 1 ≤ c.countBits ∧ 1 ≤ c.freqBits ∧ 1 ≤ c.rxDepth

/-! ### Values the spec leaves open: opaque, so that no claim can rest on one (log 3, 4, 5) -/

/-- `ACTIVE_LEVEL` of the machine that comes out of reset (log 3). -/
opaque Config.anyActiveLevel : Input → Bool

/-- `P_COUNT_BITS` less one (log 3). -/
opaque Config.anyCountBitsBeyondOne : Nat

/-- `P_FREQ_BITS` less one (log 3). -/
opaque Config.anyFreqBitsBeyondOne : Nat

/-- `P_DUTY_HALF` (log 3). -/
opaque Config.anyDutyHalf : Nat

/-- `P_LOCK_REENGAGES` (log 3). -/
opaque Config.anyLockReengages : Bool

/-- `P_RX_DEPTH` less one (log 3). -/
opaque Config.anyRxDepthBeyondOne : Nat

/-- `P_DUMP_TERMINATOR` (log 3). -/
opaque Config.anyTerminator : Terminator

/-- The raw level of each input wire at power-on: a free draw of the environment (`20_memory.md` R72, log 4). -/
opaque Config.anyPowerOnLevel : Input → Bool

/-- By how many milliseconds INITIALIZE's wait exceeds the 600 it must last (`40_debouncer.md` R130, log 5). -/
opaque Config.anyExtraWait : Nat

/-- The raw levels at the end of INITIALIZE's wait, its second `sampleRaw()` (`40_debouncer.md` R130, log 5). -/
opaque Config.anyLevelAfterWait : Input → Bool

/-- The configuration of the machine that comes out of reset: every OPEN parameter unknown within what R10 admits, the
jumper override at its deployed value `true` (`00_scope.md` R10, `10_state.md` R33). -/
def Config.deployed : Config where
  activeLevel := .ofFn Config.anyActiveLevel
  jumperOverride := true
  countBits := Config.anyCountBitsBeyondOne + 1
  freqBits := Config.anyFreqBitsBeyondOne + 1
  dutyHalf := Config.anyDutyHalf
  lockReengages := Config.anyLockReengages
  rxDepth := Config.anyRxDepthBeyondOne + 1
  terminator := Config.anyTerminator

end Sys2Proof
end

