-- ==== Sys2Proof/Syntax.lean ====
section
/-! DEFINITION. The operations: one constructor of `Instr` per row of `spec/opcode_table.json` (`30_encoding.md` R98), with
the operands the operation word carries (R92, R93). FREQ and NOW come on buses of their own (R90) and are no part of the
word, so they are no operand here: a meaning reads them from the op port. -/

namespace Sys2Proof

/-- A direction: Up = false = 0, Down = true = 1 (`00_scope.md` R15). -/
inductive Dir where
  | up | down
deriving DecidableEq, Repr

/-- The seven states of the fixture state machine, numbered 0 to 6 in this order (`00_scope.md` R15, `42_fsm.md` R180). -/
inductive FsmState where
  | init | goingDown | goingUp | stopDown | stopUp | emergencyStop | goingUpAfterEmergency
deriving DecidableEq, Repr

/-- The 21 operations. An operand byte may hold a value outside the operation's legal set: such a word still decodes and
the operation raises its own operand fault (`30_encoding.md` R102). `initialise` is the table's INITIALIZE. -/
inductive Instr where
  | updateAll
  | isActive (sensor : Byte)
  | initialise
  | tick
  | setSpeed
  | lock
  | unlock
  | setDirection (dir : Dir)
  | enable
  | driveProbe (target : Byte) (dir : Dir)
  | stopProbe (target : Byte)
  | isSensorUp
  | isSensorExtremeUp
  | isSensorDown
  | isSensorSafety
  | isDebugPressed
  | isInStopState
  | ctlRead
  | ctlWrite (byte : Byte)
  | dbgRead
  | dbgDump
deriving DecidableEq, Repr

end Sys2Proof
end

