-- ==== Sys2Proof/Machine/State.lean ====
section
/-! DEFINITION. The machine's state: everything `10_state.md` gives the block, the op port of `30_encoding.md` R90, the wires
and the schedule of the other agents (`60_exceptions.md` R261), and the value of each after reset (`10_state.md` R62). -/

namespace Sys2Proof.Machine

/-! ### Enumerations and records -/

/-- The two byte channels (`00_scope.md` R15, `43_channels.md` R219). -/
inductive Channel where
  | ctl | dbg
deriving DecidableEq, Repr

/-- One value per channel. -/
@[ext] structure PerChannel (α : Type) where
  ctl : α
  dbg : α
deriving DecidableEq, Repr

/-- The value of channel `ch`. -/
def PerChannel.get {α : Type} (p : PerChannel α) : Channel → α
  | .ctl => p.ctl
  | .dbg => p.dbg

/-- The value of channel `ch` replaced. -/
def PerChannel.set {α : Type} (p : PerChannel α) (ch : Channel) (a : α) : PerChannel α :=
  match ch with
  | .ctl => { p with ctl := a }
  | .dbg => { p with dbg := a }

/-- The digital output pins of `20_memory.md` R74. -/
inductive Pin where
  | dir | en | lock
deriving DecidableEq, Repr

/-- The PWM duty, abstract (`00_scope.md` R15). -/
inductive Duty where
  | zero | half
deriving DecidableEq, Repr

/-- A record of the event history (`10_state.md` R52). -/
inductive Event where
  | sample (t : Nat) (r : PerInput Bool)
  | writeDigital (pin : Pin) (level : Bool)
  | setPwmDuty (d : Duty)
  | setPwmFrequency (f : Nat)
  | rxTake (ch : Channel) (b : Byte)
  | tx (ch : Channel) (b : Byte)
deriving DecidableEq, Repr

/-- The fixture state vector `V`, 13 fields (`10_state.md` R40): the six cached flags are the field `flags`. -/
structure StateVector where
  state : FsmState
  count : Nat
  pwmFrequency : Nat
  flags : PerInput Bool
  motorDir : Dir
  motorEnable : Bool
  motorLock : Bool
  motorDuty : Bool
deriving DecidableEq, Repr

/-- The output registers `OUT` (`10_state.md` R50): `none` is ⊥, an output never written since reset. -/
structure Outputs where
  dir : Option Bool
  en : Option Bool
  lock : Option Bool
  duty : Option Duty
  freq : Option Nat
deriving DecidableEq, Repr

/-- The two free draws of one INITIALIZE (`40_debouncer.md` R130, log 5): the wait ends `extra` milliseconds after the 600
it must last, and the raw levels are `levels` then. -/
structure Wait where
  extra : Nat
  levels : PerInput Bool
deriving DecidableEq, Repr

/-- One transaction on the op port (`30_encoding.md` R90): the operation word and the FREQ and NOW buses, with what the
environment does while the block waits, should the operation be INITIALIZE. -/
structure Transaction where
  word : OpWord
  freq : Nat
  now : Nat
  wait : Wait
deriving DecidableEq, Repr

/-- What another agent does next (`60_exceptions.md` R261, `70_reset_and_hazards.md` R281). -/
inductive Stimulus where
  /-- The caller presents an operation on the op port. -/
  | operation (tx : Transaction)
  /-- The environment changes the raw level of one input wire. -/
  | setLevel (i : Input) (level : Bool)
  /-- The environment performs a rotation event (R262). -/
  | rotate
  /-- A channel's host pushes a byte (`20_memory.md` R77). -/
  | hostPush (ch : Channel) (b : Byte)
  /-- A channel's host reads the bytes written to it. -/
  | hostRead (ch : Channel)
  /-- Power-on or hardware reset (`70_reset_and_hazards.md` R280). -/
  | hardwareReset
deriving DecidableEq, Repr

/-- The machine's state. The configuration is a constant part of it (log 3); `port`, `raw` and `pending` belong to the
other agents (log 1, 4, 5). -/
structure State where
  /-- The configuration, which no step writes (`10_state.md` R63). -/
  cfg : Config
  /-- The fixture state vector `V` (`10_state.md` R40). -/
  vec : StateVector
  /-- `SR[i].activeSince`: `none` is SENT (`10_state.md` R31). -/
  sr : PerInput (Option Nat)
  /-- The output registers `OUT` (`10_state.md` R50). -/
  out : Outputs
  /-- The result word `RES` (`10_state.md` R53). -/
  res : ResultWord
  /-- The fault register `FAULT` (`10_state.md` R54). -/
  fault : FaultWord
  /-- The largest `now` consumed since reset (`10_state.md` R56). -/
  lastNow : Option Nat
  /-- The receive queues `RXQ`, head first (`10_state.md` R57). -/
  rxq : PerChannel (List Byte)
  /-- The transmit streams `TXS`, oldest byte first (`10_state.md` R57). -/
  txs : PerChannel (List Byte)
  /-- The event history `EVENTS`, oldest first (`10_state.md` R52). -/
  events : List Event
  /-- The wires of the op port, as the last accepted transaction set them (`30_encoding.md` R90). -/
  port : Transaction
  /-- The raw levels on the six input wires (`20_memory.md` R72). -/
  raw : PerInput Bool
  /-- What the other agents do next, the next one first (`60_exceptions.md` R261). -/
  pending : List Stimulus
deriving DecidableEq, Repr

/-! ### Field updates (their lemmas: `Laws/State.lean`) -/

/-- The state vector `V` replaced. -/
def State.withVec (s : State) (x : StateVector) : State := { s with vec := x }

/-- The sensor record file `SR` replaced. -/
def State.withSr (s : State) (x : PerInput (Option Nat)) : State := { s with sr := x }

/-- The output registers `OUT` replaced. -/
def State.withOut (s : State) (x : Outputs) : State := { s with out := x }

/-- `RES` written. -/
def State.withRes (s : State) (x : ResultWord) : State := { s with res := x }

/-- `FAULT` written. -/
def State.withFault (s : State) (x : FaultWord) : State := { s with fault := x }

/-- `lastNow` written. -/
def State.withLastNow (s : State) (x : Option Nat) : State := { s with lastNow := x }

/-- The receive queues replaced. -/
def State.withRxq (s : State) (x : PerChannel (List Byte)) : State := { s with rxq := x }

/-- The transmit streams replaced. -/
def State.withTxs (s : State) (x : PerChannel (List Byte)) : State := { s with txs := x }

/-- The event history replaced. -/
def State.withEvents (s : State) (x : List Event) : State := { s with events := x }

/-- The op port's wires replaced. -/
def State.withPort (s : State) (x : Transaction) : State := { s with port := x }

/-- The raw input wires replaced. -/
def State.withRaw (s : State) (x : PerInput Bool) : State := { s with raw := x }

/-- The schedule of the other agents replaced. -/
def State.withPending (s : State) (x : List Stimulus) : State := { s with pending := x }

/-! ### Faults of the block and outcomes of a step -/

/-- The block's own faults (`60_exceptions.md` R252). They are values of the register `FAULT`, and raising one is a next
state (R251, log 7). -/
inductive FaultCode where
  | illegalOpcode | reservedBitsSet | illegalSensorIndex | illegalTarget
  | nonMonotonicTime | motorNotEnabled | eStopBypass | rxOverflow
deriving DecidableEq, Repr

/-- The reasons for which a step could end in `Host.Outcome.fault`. There is none: the spec gives every fault an effect on
the state (`60_exceptions.md` R251, R253), so every step answers a next state (log 7). -/
inductive Fault where
deriving DecidableEq, Repr

/-- The reasons for which a step could end in `Host.Outcome.refused`. -/
inductive Refusal where
  /-- Raised by `exec`'s arm of an operation that has no meaning yet; safe, since nothing follows from it. No arm raises
  it: every operation of the table has its meaning. -/
  | notModelled (mnemonic : String)
deriving DecidableEq, Repr

/-! ### Reset -/

/-- The state vector after reset (`10_state.md` R40, R62). -/
def StateVector.reset : StateVector where
  state := .init
  count := 0
  pwmFrequency := 0
  flags := .all false
  motorDir := .up
  motorEnable := false
  motorLock := false
  motorDuty := false

/-- The output registers after reset: not driven by the block (`10_state.md` R62, `70_reset_and_hazards.md` R283). -/
def Outputs.undriven : Outputs := ⟨none, none, none, none, none⟩

/-- The op port before the first transaction: word and buses 0 (DESIGN CHOICE, log 10), the draws of a wait unknown
(log 5). -/
def Transaction.idle : Transaction where
  word := 0#32
  freq := 0
  now := 0
  wait := ⟨Config.anyExtraWait, .ofFn Config.anyLevelAfterWait⟩

/-- The block's state after reset (`10_state.md` R62, `70_reset_and_hazards.md` R280) in a machine with configuration
`cfg`, where the other agents' part is as given: reset changes none of it. -/
def State.resetWith (cfg : Config) (port : Transaction) (raw : PerInput Bool) (pending : List Stimulus) : State where
  cfg := cfg
  vec := .reset
  sr := .all none
  out := .undriven
  res := 0x0000#16
  fault := 0x00#8
  lastNow := none
  rxq := ⟨[], []⟩
  txs := ⟨[], []⟩
  events := []
  port := port
  raw := raw
  pending := pending

/-- The machine right after power-on: nothing scheduled, the raw levels and every OPEN parameter unknown (log 2, 3, 4). -/
def State.reset : State :=
  .resetWith .deployed .idle (.ofFn Config.anyPowerOnLevel) []

end Sys2Proof.Machine
end

