-- ==== Sys2Proof/Machine/Dump.lean ====
section
/-! DEFINITION. The debug dump: the printable form of the state vector (`43_channels.md` R231–R236). -/

namespace Sys2Proof.Machine

/-- `code(state)` (R232). -/
def stateCode : FsmState → Byte
  | .init => 0x69#8
  | .goingDown => 0x64#8
  | .goingUp => 0x75#8
  | .stopDown => 0x44#8
  | .stopUp => 0x55#8
  | .emergencyStop => 0x65#8
  | .goingUpAfterEmergency => 0x62#8

/-- `txt(b)`: the bytes of `true` or of `false` (R233). -/
def boolText (b : Bool) : List Byte :=
  if b then [0x74#8, 0x72#8, 0x75#8, 0x65#8] else [0x66#8, 0x61#8, 0x6C#8, 0x73#8, 0x65#8]

/-- The Bool a direction is rendered as (R234). -/
def dirBool : Dir → Bool
  | .up => false
  | .down => true

/-- The ASCII digit of `n % 10` (R236). -/
def digitByte (n : Nat) : Byte := BitVec.ofNat 8 (0x30 + n % 10)

/-- The decimal digits of `n`, least significant first, at least one, at most `fuel + 1` of them. -/
def digitsUp : Nat → Nat → List Byte
  | 0, n => [digitByte n]
  | fuel + 1, n => digitByte n :: if n / 10 = 0 then [] else digitsUp fuel (n / 10)

/-- `dec(n)`: base 10, most significant digit first, no sign, no leading zeros (R236). -/
def decimal (n : Nat) : List Byte := (digitsUp n n).reverse

/-- The bytes of `P_DUMP_TERMINATOR` (`00_scope.md` R10). -/
def terminatorBytes : Terminator → List Byte
  | .empty => []
  | .lf => [0x0A#8]
  | .crLf => [0x0D#8, 0x0A#8]

/-- The ten booleans of a dump, in order (R231, R234). -/
def dumpBools (v : StateVector) : List Bool :=
  [v.flags.jumper, v.flags.debugButton, v.flags.sensorExtremeUp, v.flags.sensorUp, v.flags.sensorDown,
    v.flags.sensorSafety, dirBool v.motorDir, v.motorEnable, v.motorLock, v.motorDuty]

/-- `serialize(V)` (R231): no separator before or between the booleans (R235). -/
def serialize (term : Terminator) (v : StateVector) : List Byte :=
  [0x3C#8, stateCode v.state] ++ (dumpBools v).flatMap boolText
    ++ [0x2E#8] ++ decimal v.pwmFrequency ++ [0x2E#8] ++ decimal v.count ++ [0x3E#8] ++ terminatorBytes term

end Sys2Proof.Machine
end

