-- ==== Sys2Proof/Machine/Flags.lean ====
section
/-! DEFINITION. The Bool computations: the debounce rule with its thresholds (`10_state.md` R32, `40_debouncer.md`
R120–R124) and the derived state sets (`00_scope.md` R16). The block has no condition codes (`10_state.md` R59). -/

namespace Sys2Proof.Machine

/-! ### Debouncing -/

/-- `THR[i]` in milliseconds (`10_state.md` R32). -/
def threshold : Input → Nat
  | .jumper => 500
  | .debugButton => 500
  | .sensorExtremeUp => 200
  | .sensorUp => 200
  | .sensorDown => 200
  | .sensorSafety => 100

/-- `MAX_THR`, the largest of the six thresholds (`00_scope.md` R10). -/
def maxThreshold : Nat :=
  max (threshold .jumper) <| max (threshold .debugButton) <| max (threshold .sensorExtremeUp) <|
    max (threshold .sensorUp) <| max (threshold .sensorDown) (threshold .sensorSafety)

/-- `WARMUP_MS = MAX_THR + 100` (`00_scope.md` R10, `40_debouncer.md` R130). -/
def warmup : Nat := maxThreshold + 100

/-- `updateOne`: the new `activeSince` of an input with active level `active`, sampled at level `level` at time `now`
(`40_debouncer.md` R120). -/
def updateOne (active level : Bool) (now : Nat) (since : Option Nat) : Option Nat :=
  if level = active then
    match since with
    | none => some now
    | some t => some t
  else none

/-- `debounced(i, now)`: active for strictly more than the threshold (`40_debouncer.md` R123; a record later than `now`, which
no run reaches, counts as no time: log 11). -/
def debounced (sr : PerInput (Option Nat)) (i : Input) (now : Nat) : Bool :=
  match sr.get i with
  | none => false
  | some t => decide (now - t > threshold i)

/-- `isActive(i, now)`: the jumper override acts at this output alone (`40_debouncer.md` R124). -/
def isActiveAt (cfg : Config) (sr : PerInput (Option Nat)) (i : Input) (now : Nat) : Bool :=
  (i = .jumper && cfg.jumperOverride) || debounced sr i now

/-! ### State sets (`00_scope.md` R16) -/

/-- `Stopped` = StopDown, StopUp, EmergencyStop. -/
def isStopped : FsmState → Bool
  | .stopDown => true
  | .stopUp => true
  | .emergencyStop => true
  | .init => false
  | .goingDown => false
  | .goingUp => false
  | .goingUpAfterEmergency => false

/-- `Moving` = GoingDown, GoingUp, GoingUpAfterEmergency. -/
def isMoving : FsmState → Bool
  | .goingDown => true
  | .goingUp => true
  | .goingUpAfterEmergency => true
  | .init => false
  | .stopDown => false
  | .stopUp => false
  | .emergencyStop => false

end Sys2Proof.Machine
end

