-- ==== Sys2Proof/Machine/Operands.lean ====
section
/-! DEFINITION. Operand assembly and result encoding: the numbers of the enumerations (`00_scope.md` R15), the legal
operand values (`30_encoding.md` R93, R102) and the result word (R96). -/

namespace Sys2Proof.Machine

/-- The input a sensor operand names; `none` for 6..255 (`40_debouncer.md` R125). -/
def sensorOperand (sensor : Byte) : Option Input :=
  match sensor.toNat with
  | 0 => some .jumper
  | 1 => some .debugButton
  | 2 => some .sensorExtremeUp
  | 3 => some .sensorUp
  | 4 => some .sensorDown
  | 5 => some .sensorSafety
  | _ => none

/-- The state a target operand of DRIVE_PROBE names; `none` outside {1, 2, 6} (`42_fsm.md` R181). -/
def moveTarget (target : Byte) : Option FsmState :=
  match target.toNat with
  | 1 => some .goingDown
  | 2 => some .goingUp
  | 6 => some .goingUpAfterEmergency
  | _ => none

/-- The state a target operand of STOP_PROBE names; `none` outside {3, 4, 5} (`42_fsm.md` R186). -/
def stopTarget (target : Byte) : Option FsmState :=
  match target.toNat with
  | 3 => some .stopDown
  | 4 => some .stopUp
  | 5 => some .emergencyStop
  | _ => none

/-- The number of a state, 0 to 6 (`00_scope.md` R15). -/
def stateIndex : FsmState → Byte
  | .init => 0#8
  | .goingDown => 1#8
  | .goingUp => 2#8
  | .stopDown => 3#8
  | .stopUp => 4#8
  | .emergencyStop => 5#8
  | .goingUpAfterEmergency => 6#8

/-- The logical level of a direction: Up = false, Down = true (`00_scope.md` R15). -/
def dirLevel : Dir → Bool
  | .up => false
  | .down => true

/-- The result of an operation that returns nothing (`30_encoding.md` R96). -/
def resNone : ResultWord := 0x0000#16

/-- A Bool result (`30_encoding.md` R96). -/
def resBool (b : Bool) : ResultWord := if b then 0x0001#16 else 0x0000#16

/-- The result of a channel read: the byte zero-extended, or NoCommand (`30_encoding.md` R96). -/
def resRead : Option Byte → ResultWord
  | some b => b.setWidth 16
  | none => 0xFFFF#16

end Sys2Proof.Machine
end

