-- ==== Sys2Proof/Machine/Ops.lean ====
section
/-! DEFINITION. The named operations over the state that the meanings share: faults (`60_exceptions.md` R251–R254), the
capability calls (`20_memory.md` R74), the channel primitives (R76), sampling and time (`40_debouncer.md` R120, R122) and
the bodies that DRIVE_PROBE and STOP_PROBE reuse (`42_fsm.md` R181, R186). -/

namespace Sys2Proof.Machine

/-! ### Faults: the block's only exception; there is no return from it but reset (`60_exceptions.md` R255) -/

/-- The code of a fault (`60_exceptions.md` R252). -/
def FaultCode.code : FaultCode → FaultWord
  | .illegalOpcode => 0x01#8
  | .reservedBitsSet => 0x02#8
  | .illegalSensorIndex => 0x03#8
  | .illegalTarget => 0x04#8
  | .nonMonotonicTime => 0x05#8
  | .motorNotEnabled => 0x06#8
  | .eStopBypass => 0x07#8
  | .rxOverflow => 0x08#8

/-- The block is halted (`60_exceptions.md` R253). -/
def State.halted (s : State) : Bool := s.fault ≠ 0x00#8

/-- The state a fault leaves: `FAULT` holds the code, everything else is as before the operation (`60_exceptions.md`
R251). -/
def recordFault (c : FaultCode) (s : State) : State := s.withFault c.code

/-- `raise Fault(code)` inside an operation: every check comes before the first write, so the fault is taken in the state
the operation found (`60_exceptions.md` R251, R254). -/
def raise (c : FaultCode) (s : State) : Host.Outcome State Fault Refusal := .next (recordFault c s)

/-- The end of an operation that executed: `RES` takes the result (`10_state.md` R53). -/
def finish (r : ResultWord) (s : State) : Host.Outcome State Fault Refusal := .next (s.withRes r)

/-! ### Capability calls (`20_memory.md` R74, R75): the output register and one event, each time -/

/-- `emit(E)` (`00_scope.md` R13). -/
def emit (e : Event) (s : State) : State := s.withEvents (s.events ++ [e])

/-- The output registers with one digital pin written. -/
def Outputs.writePin (o : Outputs) (pin : Pin) (level : Bool) : Outputs :=
  match pin with
  | .dir => { o with dir := some level }
  | .en => { o with en := some level }
  | .lock => { o with lock := some level }

/-- `writeDigital(pin, level)`. -/
def writeDigital (pin : Pin) (level : Bool) (s : State) : State :=
  emit (.writeDigital pin level) (s.withOut (s.out.writePin pin level))

/-- `setPwmDuty(d)`. -/
def setPwmDuty (d : Duty) (s : State) : State :=
  emit (.setPwmDuty d) (s.withOut { s.out with duty := some d })

/-- `setPwmFrequency(f)`. -/
def setPwmFrequency (f : Nat) (s : State) : State :=
  emit (.setPwmFrequency f) (s.withOut { s.out with freq := some f })

/-- The number `setPwmDuty` writes for a duty: `P_DUTY_HALF` for `Half`, 0 for `Zero` (`20_memory.md` R74). -/
def dutyNumber (cfg : Config) : Duty → Nat
  | .zero => 0
  | .half => cfg.dutyHalf

/-- The number on the PWM duty output, unknown before its first write (`20_memory.md` R74, `70_reset_and_hazards.md`
R283). -/
def State.pwmDutyNumber (s : State) : Option Nat := s.out.duty.map (dutyNumber s.cfg)

/-! ### Channel primitives (`20_memory.md` R76) -/

/-- What `RxPop(ch)` returns: the head of the queue, `none` for NoCommand. -/
def rxHead (ch : Channel) (s : State) : Option Byte := (s.rxq.get ch).head?

/-- What `RxPop(ch)` does: an empty queue changes nothing. -/
def rxPop (ch : Channel) (s : State) : State :=
  match s.rxq.get ch with
  | [] => s
  | b :: rest => emit (.rxTake ch b) (s.withRxq (s.rxq.set ch rest))

/-- `TxAppend(ch, bytes)`: every byte is appended to the stream and emitted, in order. -/
def txAppend (ch : Channel) (bytes : List Byte) (s : State) : State :=
  (s.withTxs (s.txs.set ch (s.txs.get ch ++ bytes))).withEvents (s.events ++ bytes.map (.tx ch))

/-! ### Sampling and time (`20_memory.md` R72, `40_debouncer.md` R120, R122) -/

/-- `checkTime(now)`: false raises NonMonotonicTime (`40_debouncer.md` R122). -/
def timeOk (now : Nat) (s : State) : Bool :=
  match s.lastNow with
  | none => true
  | some last => decide (last ≤ now)

/-- One `sampleRaw()` at time `t` and `updateOne` of each input: the levels read are those on the wires
(`40_debouncer.md` R120). -/
def sampleAndUpdate (t : Nat) (s : State) : State :=
  (emit (.sample t s.raw) s).withSr
    (.ofFn fun i => updateOne (s.cfg.activeLevel.get i) (s.raw.get i) t (s.sr.get i))

/-- `V.F[i] <- isActive(i, now)` for all six inputs (`40_debouncer.md` R135). -/
def refreshFlags (now : Nat) (s : State) : State :=
  s.withVec { s.vec with flags := .ofFn fun i => isActiveAt s.cfg s.sr i now }

/-- `lastNow <- now`. -/
def consumeTime (now : Nat) (s : State) : State := s.withLastNow (some now)

/-! ### Operation bodies (`41_motor.md` R150, R153, R156, R159, R162) -/

/-- The body of SET_SPEED: compare and skip against the recorded frequency (R150). -/
def setSpeedBody (f : Nat) (s : State) : State :=
  if f = s.vec.pwmFrequency then s
  else
    let t := setPwmFrequency f s
    t.withVec { t.vec with pwmFrequency := f }

/-- The body of LOCK (R153). -/
def lockBody (s : State) : State :=
  let t := setPwmDuty .zero s
  let t := t.withVec { t.vec with motorDuty := false }
  if s.cfg.lockReengages then
    let t := writeDigital .lock false t
    t.withVec { t.vec with motorLock := false }
  else t

/-- The body of UNLOCK after its enable check (R156). -/
def unlockBody (s : State) : State :=
  let t := setPwmDuty .half s
  let t := t.withVec { t.vec with motorDuty := true }
  let t := writeDigital .lock true t
  t.withVec { t.vec with motorLock := true }

/-- The body of SET_DIRECTION (R159). -/
def setDirectionBody (dir : Dir) (s : State) : State :=
  let t := writeDigital .dir (dirLevel dir) s
  t.withVec { t.vec with motorDir := dir }

/-- The body of ENABLE (R162). -/
def enableBody (s : State) : State :=
  let t := writeDigital .en true s
  t.withVec { t.vec with motorEnable := true }

/-- `V.state <- target` (`42_fsm.md` R181, R186). -/
def enterState (target : FsmState) (s : State) : State := s.withVec { s.vec with state := target }

/-- `V.count <- 0` (`42_fsm.md` R186). -/
def clearCount (s : State) : State := s.withVec { s.vec with count := 0 }

end Sys2Proof.Machine
end

