-- ==== Sys2Proof/Machine/Channels.lean ====
section
/-! DEFINITION. The Command Channel operations (`43_channels.md`). Neither channel blocks (R239). -/

namespace Sys2Proof.Machine

/-- CTL_READ (R220). -/
def execCtlRead (s : State) : Host.Outcome State Fault Refusal :=
  finish (resRead (rxHead .ctl s)) (rxPop .ctl s)

/-- CTL_WRITE (R223). -/
def execCtlWrite (byte : Byte) (s : State) : Host.Outcome State Fault Refusal :=
  finish resNone (txAppend .ctl [byte] s)

/-- DBG_READ (R226). -/
def execDbgRead (s : State) : Host.Outcome State Fault Refusal :=
  finish (resRead (rxHead .dbg s)) (rxPop .dbg s)

/-- DBG_DUMP (R230): the block's own state vector as it stands. -/
def execDbgDump (s : State) : Host.Outcome State Fault Refusal :=
  finish resNone (txAppend .dbg (serialize s.cfg.terminator s.vec) s)

end Sys2Proof.Machine
end

