-- ==== Sys2Proof/Machine/Debouncer.lean ====
section
/-! DEFINITION. The Sensor Debouncer operations (`40_debouncer.md`). All four use the NOW bus. -/

namespace Sys2Proof.Machine

/-- UPDATE_ALL (R120). -/
def execUpdateAll (s : State) : Host.Outcome State Fault Refusal :=
  if timeOk s.port.now s then
    finish resNone (consumeTime s.port.now (sampleAndUpdate s.port.now s))
  else raise .nonMonotonicTime s

/-- IS_ACTIVE (R125): the index check comes before the time check (`60_exceptions.md` R254). -/
def execIsActive (sensor : Byte) (s : State) : Host.Outcome State Fault Refusal :=
  match sensorOperand sensor with
  | none => raise .illegalSensorIndex s
  | some i =>
    if timeOk s.port.now s then
      finish (resBool (isActiveAt s.cfg s.sr i s.port.now)) (consumeTime s.port.now s)
    else raise .nonMonotonicTime s

/-- `t2`, the time of INITIALIZE's second sample: at least `now + WARMUP_MS`, otherwise free (R130, log 5). -/
def initialiseEnd (s : State) : Nat := s.port.now + warmup + s.port.wait.extra

/-- INITIALIZE (R130): a sample at `now`, the wait, at whose end the wires carry the drawn levels, and a sample at `t2`. -/
def execInitialise (s : State) : Host.Outcome State Fault Refusal :=
  if timeOk s.port.now s then
    let waited := (sampleAndUpdate s.port.now s).withRaw s.port.wait.levels
    finish resNone (consumeTime (initialiseEnd s) (sampleAndUpdate (initialiseEnd s) waited))
  else raise .nonMonotonicTime s

/-- TICK (R135): a sample, then the cached flags from that sample. -/
def execTick (s : State) : Host.Outcome State Fault Refusal :=
  if timeOk s.port.now s then
    finish resNone (consumeTime s.port.now (refreshFlags s.port.now (sampleAndUpdate s.port.now s)))
  else raise .nonMonotonicTime s

end Sys2Proof.Machine
end

