-- ==== Sys2Proof/Machine/Fsm.lean ====
section
/-! DEFINITION. The Fixture State Machine operations (`42_fsm.md`). The accessors read the cached flags that the last TICK
left (R190–R194). -/

namespace Sys2Proof.Machine

/-- Leaving EmergencyStop other than as `42_fsm.md` R184 allows: `target` is not the one state that may follow. -/
def bypassesEStop (s : State) (allowed target : FsmState) : Bool :=
  s.vec.state = .emergencyStop && target ≠ allowed

/-- DRIVE_PROBE (R181): target, enable and state are checked in that order, then state, speed, direction, unlock. -/
def execDriveProbe (target : Byte) (dir : Dir) (s : State) : Host.Outcome State Fault Refusal :=
  match moveTarget target with
  | none => raise .illegalTarget s
  | some m =>
    if s.vec.motorEnable then
      if bypassesEStop s .goingUpAfterEmergency m then raise .eStopBypass s
      else finish resNone (unlockBody (setDirectionBody dir (setSpeedBody s.port.freq (enterState m s))))
    else raise .motorNotEnabled s

/-- STOP_PROBE (R186): state, count, then the body of LOCK. -/
def execStopProbe (target : Byte) (s : State) : Host.Outcome State Fault Refusal :=
  match stopTarget target with
  | none => raise .illegalTarget s
  | some m =>
    if bypassesEStop s .emergencyStop m then raise .eStopBypass s
    else finish resNone (lockBody (clearCount (enterState m s)))

/-- IS_SENSOR_UP (R190): either of the two flags. -/
def execIsSensorUp (s : State) : Host.Outcome State Fault Refusal :=
  finish (resBool (s.vec.flags.get .sensorUp || s.vec.flags.get .sensorExtremeUp)) s

/-- IS_SENSOR_EXTREME_UP (R191). -/
def execIsSensorExtremeUp (s : State) : Host.Outcome State Fault Refusal :=
  finish (resBool (s.vec.flags.get .sensorExtremeUp)) s

/-- IS_SENSOR_DOWN (R192). -/
def execIsSensorDown (s : State) : Host.Outcome State Fault Refusal :=
  finish (resBool (s.vec.flags.get .sensorDown)) s

/-- IS_SENSOR_SAFETY (R193). -/
def execIsSensorSafety (s : State) : Host.Outcome State Fault Refusal :=
  finish (resBool (s.vec.flags.get .sensorSafety)) s

/-- IS_DEBUG_PRESSED (R194): not gated by the jumper flag. -/
def execIsDebugPressed (s : State) : Host.Outcome State Fault Refusal :=
  finish (resBool (s.vec.flags.get .debugButton)) s

/-- IS_IN_STOP_STATE (R195). -/
def execIsInStopState (s : State) : Host.Outcome State Fault Refusal :=
  finish (resBool (isStopped s.vec.state)) s

end Sys2Proof.Machine
end

