-- ==== Sys2Proof/Machine/Motor.lean ====
section
/-! DEFINITION. The Motor Controller operations (`41_motor.md`). There is no disable operation (R163). -/

namespace Sys2Proof.Machine

/-- SET_SPEED (R150). -/
def execSetSpeed (s : State) : Host.Outcome State Fault Refusal :=
  finish resNone (setSpeedBody s.port.freq s)

/-- LOCK (R153). -/
def execLock (s : State) : Host.Outcome State Fault Refusal :=
  finish resNone (lockBody s)

/-- UNLOCK (R156). -/
def execUnlock (s : State) : Host.Outcome State Fault Refusal :=
  if s.vec.motorEnable then finish resNone (unlockBody s) else raise .motorNotEnabled s

/-- SET_DIRECTION (R159). -/
def execSetDirection (dir : Dir) (s : State) : Host.Outcome State Fault Refusal :=
  finish resNone (setDirectionBody dir s)

/-- ENABLE (R162). -/
def execEnable (s : State) : Host.Outcome State Fault Refusal :=
  finish resNone (enableBody s)

end Sys2Proof.Machine
end

