-- ==== Sys2Proof/Machine/Dispatch.lean ====
section
/-! DEFINITION. One arm per operation: a direct call of its meaning. -/

namespace Sys2Proof.Machine

/-- The meaning of an operation that has been decoded by a block that is not halted. -/
def exec (i : Instr) (s : State) : Host.Outcome State Fault Refusal :=
  match i with
  | .updateAll => Sys2Proof.Machine.execUpdateAll s
  | .isActive sensor => Sys2Proof.Machine.execIsActive sensor s
  | .initialise => Sys2Proof.Machine.execInitialise s
  | .tick => Sys2Proof.Machine.execTick s
  | .setSpeed => Sys2Proof.Machine.execSetSpeed s
  | .lock => Sys2Proof.Machine.execLock s
  | .unlock => Sys2Proof.Machine.execUnlock s
  | .setDirection dir => Sys2Proof.Machine.execSetDirection dir s
  | .enable => Sys2Proof.Machine.execEnable s
  | .driveProbe target dir => Sys2Proof.Machine.execDriveProbe target dir s
  | .stopProbe target => Sys2Proof.Machine.execStopProbe target s
  | .isSensorUp => Sys2Proof.Machine.execIsSensorUp s
  | .isSensorExtremeUp => Sys2Proof.Machine.execIsSensorExtremeUp s
  | .isSensorDown => Sys2Proof.Machine.execIsSensorDown s
  | .isSensorSafety => Sys2Proof.Machine.execIsSensorSafety s
  | .isDebugPressed => Sys2Proof.Machine.execIsDebugPressed s
  | .isInStopState => Sys2Proof.Machine.execIsInStopState s
  | .ctlRead => Sys2Proof.Machine.execCtlRead s
  | .ctlWrite byte => Sys2Proof.Machine.execCtlWrite byte s
  | .dbgRead => Sys2Proof.Machine.execDbgRead s
  | .dbgDump => Sys2Proof.Machine.execDbgDump s

end Sys2Proof.Machine
end

