-- ==== Sys2Proof/Decode.lean ====
section
/-! DEFINITION. The operation word: its fields, the opcode map, the decoder and the encoder (`30_encoding.md` R91–R102). -/

namespace Sys2Proof

/-! ### Format OPW (R91) -/

/-- `OP = w[7:0]`. -/
def opField (w : OpWord) : Byte := w.extractLsb' 0 8

/-- `A = w[15:8]`. -/
def aField (w : OpWord) : Byte := w.extractLsb' 8 8

/-- `B = w[23:16]`. -/
def bField (w : OpWord) : Byte := w.extractLsb' 16 8

/-- The word with the fields `C = c`, `B = b`, `A = a`, `OP = op`. -/
def packWord (c b a op : Byte) : OpWord :=
  op.setWidth 32 ||| (a.setWidth 32 <<< 8) ||| (b.setWidth 32 <<< 16) ||| (c.setWidth 32 <<< 24)

/-- The direction an operand bit stands for: 0 = Up, 1 = Down (R93). -/
def dirOfBit (bit : Bool) : Dir := if bit then .down else .up

/-- The operand byte of a direction: bit 0 is the direction, the other bits must be zero (R92). -/
def dirByte : Dir → Byte
  | .up => 0x00#8
  | .down => 0x01#8

/-! ### The opcode map (R98) -/

/-- A row of the opcode map: a word selects it when `w[7:0] = opcode`, and is one of its words when the masked bits are
`pattern`; `build` assembles the operands from the fields A and B (R93). -/
structure Row where
  opcode : Byte
  mask : OpWord
  pattern : OpWord
  build : Byte → Byte → Instr

/-- Group 0x1_: the Sensor Debouncer (R98, R99). -/
def debouncerRows : List Row := [
  ⟨0x10#8, 0xFFFFFFFF#32, 0x00000010#32, fun _ _ => .updateAll⟩,
  ⟨0x11#8, 0xFFFF00FF#32, 0x00000011#32, fun a _ => .isActive a⟩,
  ⟨0x12#8, 0xFFFFFFFF#32, 0x00000012#32, fun _ _ => .initialise⟩,
  ⟨0x13#8, 0xFFFFFFFF#32, 0x00000013#32, fun _ _ => .tick⟩]

/-- Group 0x2_: the Motor Controller (R98, R99). -/
def motorRows : List Row := [
  ⟨0x20#8, 0xFFFFFFFF#32, 0x00000020#32, fun _ _ => .setSpeed⟩,
  ⟨0x21#8, 0xFFFFFFFF#32, 0x00000021#32, fun _ _ => .lock⟩,
  ⟨0x22#8, 0xFFFFFFFF#32, 0x00000022#32, fun _ _ => .unlock⟩,
  ⟨0x23#8, 0xFFFFFEFF#32, 0x00000023#32, fun a _ => .setDirection (dirOfBit (a.getLsbD 0))⟩,
  ⟨0x24#8, 0xFFFFFFFF#32, 0x00000024#32, fun _ _ => .enable⟩]

/-- Group 0x3_: the Fixture State Machine (R98, R99). -/
def fsmRows : List Row := [
  ⟨0x30#8, 0xFFFE00FF#32, 0x00000030#32, fun a b => .driveProbe a (dirOfBit (b.getLsbD 0))⟩,
  ⟨0x31#8, 0xFFFF00FF#32, 0x00000031#32, fun a _ => .stopProbe a⟩,
  ⟨0x32#8, 0xFFFFFFFF#32, 0x00000032#32, fun _ _ => .isSensorUp⟩,
  ⟨0x33#8, 0xFFFFFFFF#32, 0x00000033#32, fun _ _ => .isSensorExtremeUp⟩,
  ⟨0x34#8, 0xFFFFFFFF#32, 0x00000034#32, fun _ _ => .isSensorDown⟩,
  ⟨0x35#8, 0xFFFFFFFF#32, 0x00000035#32, fun _ _ => .isSensorSafety⟩,
  ⟨0x36#8, 0xFFFFFFFF#32, 0x00000036#32, fun _ _ => .isDebugPressed⟩,
  ⟨0x37#8, 0xFFFFFFFF#32, 0x00000037#32, fun _ _ => .isInStopState⟩]

/-- Group 0x4_: the Command Channels (R98, R99). -/
def channelRows : List Row := [
  ⟨0x40#8, 0xFFFFFFFF#32, 0x00000040#32, fun _ _ => .ctlRead⟩,
  ⟨0x41#8, 0xFFFF00FF#32, 0x00000041#32, fun a _ => .ctlWrite a⟩,
  ⟨0x42#8, 0xFFFFFFFF#32, 0x00000042#32, fun _ _ => .dbgRead⟩,
  ⟨0x43#8, 0xFFFFFFFF#32, 0x00000043#32, fun _ _ => .dbgDump⟩]

/-- The whole opcode map, 21 rows (R98). -/
def opcodeMap : List Row := debouncerRows ++ motorRows ++ fsmRows ++ channelRows

/-! ### Decoding (R95) -/

/-- Why a word is no operation: the two decode faults of `60_exceptions.md` R252. -/
inductive DecodeError where
  /-- `w[7:0]` is not an opcode of the map (R101). -/
  | illegalOpcode
  /-- A must-be-zero bit of the word is 1 (R100). -/
  | reservedBitsSet
deriving DecidableEq, Repr

/-- Decoding, total on every 32-bit word (R95): the opcode selects the row, then the masked bits are checked. -/
def decode (w : OpWord) : Except DecodeError Instr :=
  match opcodeMap.find? fun row => row.opcode == opField w with
  | none => .error .illegalOpcode
  | some row =>
    if w &&& row.mask = row.pattern then .ok (row.build (aField w) (bField w)) else .error .reservedBitsSet

/-- The word of an operation (R92, R104). -/
def encode : Instr → OpWord
  | .updateAll => packWord 0x00#8 0x00#8 0x00#8 0x10#8
  | .isActive sensor => packWord 0x00#8 0x00#8 sensor 0x11#8
  | .initialise => packWord 0x00#8 0x00#8 0x00#8 0x12#8
  | .tick => packWord 0x00#8 0x00#8 0x00#8 0x13#8
  | .setSpeed => packWord 0x00#8 0x00#8 0x00#8 0x20#8
  | .lock => packWord 0x00#8 0x00#8 0x00#8 0x21#8
  | .unlock => packWord 0x00#8 0x00#8 0x00#8 0x22#8
  | .setDirection dir => packWord 0x00#8 0x00#8 (dirByte dir) 0x23#8
  | .enable => packWord 0x00#8 0x00#8 0x00#8 0x24#8
  | .driveProbe target dir => packWord 0x00#8 (dirByte dir) target 0x30#8
  | .stopProbe target => packWord 0x00#8 0x00#8 target 0x31#8
  | .isSensorUp => packWord 0x00#8 0x00#8 0x00#8 0x32#8
  | .isSensorExtremeUp => packWord 0x00#8 0x00#8 0x00#8 0x33#8
  | .isSensorDown => packWord 0x00#8 0x00#8 0x00#8 0x34#8
  | .isSensorSafety => packWord 0x00#8 0x00#8 0x00#8 0x35#8
  | .isDebugPressed => packWord 0x00#8 0x00#8 0x00#8 0x36#8
  | .isInStopState => packWord 0x00#8 0x00#8 0x00#8 0x37#8
  | .ctlRead => packWord 0x00#8 0x00#8 0x00#8 0x40#8
  | .ctlWrite byte => packWord 0x00#8 0x00#8 byte 0x41#8
  | .dbgRead => packWord 0x00#8 0x00#8 0x00#8 0x42#8
  | .dbgDump => packWord 0x00#8 0x00#8 0x00#8 0x43#8

/-- The operation word the host's numbering stands for: the `nbits` bits of `w`, every bit above them 0. The word is
presented whole and parallel, so it has no byte order to undo (`20_memory.md` R78, R79). -/
def presentedWord (nbits w : Nat) : OpWord := BitVec.ofNat 32 (w % 2 ^ nbits)

/-- What the decoder reads from the operation word whose bits are `w` (`none` where it refuses). -/
def decodeTableWord (nbits w : Nat) : Option Instr :=
  match decode (presentedWord nbits w) with
  | .ok i => some i
  | .error _ => none

end Sys2Proof
end

