-- ==== Sys2Proof/Machine/Environment.lean ====
section
/-! DEFINITION. What the other agents do to the block between operations (`60_exceptions.md` R261, R262, `20_memory.md`
R77, `70_reset_and_hazards.md` R280), and how the next operation reaches the op port (`30_encoding.md` R90). -/

namespace Sys2Proof.Machine

/-- A rotation event (`60_exceptions.md` R262); without effect while halted (R253). -/
def rotate (s : State) : State :=
  if s.halted then s else s.withVec { s.vec with count := (s.vec.count + 1) % 2 ^ s.cfg.countBits }

/-- `HostPush(ch, b)` (`20_memory.md` R77): into a full queue it raises RxOverflow; without effect while halted
(`60_exceptions.md` R253). -/
def hostPush (ch : Channel) (b : Byte) (s : State) : State :=
  if s.halted then s
  else if (s.rxq.get ch).length < s.cfg.rxDepth then s.withRxq (s.rxq.set ch (s.rxq.get ch ++ [b]))
  else recordFault .rxOverflow s

/-- A raw level changes; the block sees it at its next sample (`60_exceptions.md` R261 a). -/
def setLevel (i : Input) (level : Bool) (s : State) : State := s.withRaw (s.raw.set i level)

/-- Hardware reset (`70_reset_and_hazards.md` R280): the block's own state takes its reset values; the configuration
(`10_state.md` R63) and what belongs to the other agents stay (log 9). -/
def hardwareReset (s : State) : State := .resetWith s.cfg s.port s.raw s.pending

/-- The op port with a transaction on it. FREQ is exactly `P_FREQ_BITS` bits wide (`30_encoding.md` R94), so the bus holds
that many low bits of the number (log 6). -/
def present (tx : Transaction) (s : State) : State :=
  s.withPort { tx with freq := tx.freq % 2 ^ s.cfg.freqBits }

/-- What a step finds to do. -/
inductive Arrival where
  /-- No operation to execute: the state after the step. -/
  | quiet (s : State)
  /-- An operation is on the op port of a block that is not halted. -/
  | issued (s : State)
deriving DecidableEq, Repr

/-- The next action of the other agents is taken off the schedule and performed; an operation is put on the op port, or
dropped undecoded while the block is halted (`60_exceptions.md` R253, log 8). With nothing scheduled the block waits
(`70_reset_and_hazards.md` R282). -/
def arrive (s : State) : Arrival :=
  match s.pending with
  | [] => .quiet s
  | a :: rest =>
    let t := s.withPending rest
    match a with
    | .operation tx => if t.halted then .quiet t else .issued (present tx t)
    | .setLevel i level => .quiet (setLevel i level t)
    | .rotate => .quiet (rotate t)
    | .hostPush ch b => .quiet (hostPush ch b t)
    | .hostRead _ => .quiet t
    | .hardwareReset => .quiet (hardwareReset t)

/-- The fault code of a decode error (`60_exceptions.md` R252). -/
def decodeFault : DecodeError → FaultCode
  | .illegalOpcode => .illegalOpcode
  | .reservedBitsSet => .reservedBitsSet

/-- The schedule with one operation word put at its head, the buses and draws as the op port's wires stand. -/
def scheduleWord (w : OpWord) (s : State) : State :=
  s.withPending (.operation { s.port with word := w } :: s.pending)

end Sys2Proof.Machine
end

