-- ==== Sys2Proof/Machine/Step.lean ====
section
/-! DEFINITION. One step: the next action of the other agents, and where it is an operation, its decoding and execution
(`60_exceptions.md` R253, R254, `30_encoding.md` R95). -/

namespace Sys2Proof.Machine

/-- One step of the machine. The halted check comes before decoding, decoding before every other check. -/
def step (s : State) : Host.Outcome State Fault Refusal :=
  match arrive s with
  | .quiet t => .next t
  | .issued t =>
    match decode t.port.word with
    | .ok i => exec i t
    | .error e => raise (decodeFault e) t

/-- `s` with the operation word whose bits are `w` scheduled as what the caller does next, so that the next step takes it
(log 2). NOW keeps the value on the op port's wires, and FREQ its remainder modulo its width (log 6). -/
def State.withFetchWord (s : State) (nbits w : Nat) : State := scheduleWord (presentedWord nbits w) s

end Sys2Proof.Machine
end

