-- ==== Sys2Proof/Safety.lean ====
section
/-! DEFINITION. The terms claims are stated in: acceptable end states, the conditions every reachable state meets, what the
event history says about the state, and which part of the state each operation may write. -/

namespace Sys2Proof.Machine

/-! ### Runs -/

/-- A final state is acceptable only if `FAULT = 0x00` (`60_exceptions.md` R271). -/
def State.acceptable (s : State) : Bool := s.fault = 0x00#8

/-- The NOW on the op port is not before any NOW consumed so far: the caller duty that `checkTime` checks
(`40_debouncer.md` R122). -/
abbrev TimeKept (s : State) : Prop := ∀ last, s.lastNow = some last → last ≤ s.port.now

/-! ### Conditions that no step breaks -/

/-- `FAULT` holds 0x00 or a code of `60_exceptions.md` R252. -/
abbrev FaultListed (s : State) : Prop := s.fault.toNat ≤ 8

/-- `RES` holds a value of `30_encoding.md` R96: a byte (0x0000 and 0x0001 among them) or NoCommand. -/
abbrev ResultListed (s : State) : Prop := s.res.toNat ≤ 0xFF ∨ s.res = 0xFFFF#16

/-- Counter and frequencies lie within their widths (`10_state.md` R40, R50, `30_encoding.md` R94). -/
abbrev WidthsKept (s : State) : Prop :=
  s.vec.count < 2 ^ s.cfg.countBits ∧ s.vec.pwmFrequency < 2 ^ s.cfg.freqBits ∧ s.port.freq < 2 ^ s.cfg.freqBits ∧
    ∀ f, s.out.freq = some f → f < 2 ^ s.cfg.freqBits

/-- Every recorded time is a NOW that some operation consumed (`40_debouncer.md` R123). -/
abbrev TimesConsumed (s : State) : Prop :=
  ∀ i t, s.sr.get i = some t → ∃ last, s.lastNow = some last ∧ t ≤ last

/-- Each output register holds what the state vector records, or was never written while the record has its reset value
(`10_state.md` R51, `41_motor.md` R164, `70_reset_and_hazards.md` R283). -/
abbrev OutputsRecorded (s : State) : Prop :=
  (s.out.dir = some (dirLevel s.vec.motorDir) ∨ s.out.dir = none ∧ s.vec.motorDir = .up) ∧
  (s.out.en = if s.vec.motorEnable then some true else none) ∧
  (s.out.lock = some s.vec.motorLock ∨ s.out.lock = none ∧ s.vec.motorLock = false) ∧
  (s.out.duty = some (if s.vec.motorDuty then .half else .zero) ∨ s.out.duty = none ∧ s.vec.motorDuty = false) ∧
  (s.out.freq = some s.vec.pwmFrequency ∨ s.out.freq = none ∧ s.vec.pwmFrequency = 0)

/-- No receive queue holds more than `P_RX_DEPTH` bytes (`10_state.md` R57). -/
abbrev QueuesBounded (s : State) : Prop := ∀ ch, (s.rxq.get ch).length ≤ s.cfg.rxDepth

/-- A moving state is entered with the motor enabled only, and the enable is never revoked (`42_fsm.md` R181, `41_motor.md`
R163). -/
abbrev MovingEnabled (s : State) : Prop := isMoving s.vec.state → s.vec.motorEnable = true

/-- All of them together. -/
structure Coherent (s : State) : Prop where
  admitted : s.cfg.Admitted
  fault : FaultListed s
  result : ResultListed s
  widths : WidthsKept s
  times : TimesConsumed s
  outputs : OutputsRecorded s
  queues : QueuesBounded s
  moving : MovingEnabled s

/-! ### What the event history says (`10_state.md` R52) -/

/-- The output registers after one more record. -/
def replayEvent (o : Outputs) : Event → Outputs
  | .writeDigital .dir level => { o with dir := some level }
  | .writeDigital .en level => { o with en := some level }
  | .writeDigital .lock level => { o with lock := some level }
  | .setPwmDuty d => { o with duty := some d }
  | .setPwmFrequency f => { o with freq := some f }
  | .sample _ _ => o
  | .rxTake _ _ => o
  | .tx _ _ => o

/-- The output registers a history leaves: the last value written to each (`10_state.md` R50). -/
def replayOutputs (h : List Event) : Outputs := h.foldl replayEvent .undriven

/-- The byte a record sends on channel `ch`. -/
def Event.sentOn (ch : Channel) : Event → Option Byte
  | .tx c b => if c = ch then some b else none
  | .sample _ _ => none
  | .writeDigital _ _ => none
  | .setPwmDuty _ => none
  | .setPwmFrequency _ => none
  | .rxTake _ _ => none

/-- The bytes a history sends on channel `ch`, in order. -/
def sentBytes (ch : Channel) (h : List Event) : List Byte := h.filterMap (Event.sentOn ch)

/-- The time and the raw level of input `i` in a sample record. -/
def Event.sampled (i : Input) : Event → Option (Nat × Bool)
  | .sample t r => some (t, r.get i)
  | .writeDigital _ _ => none
  | .setPwmDuty _ => none
  | .setPwmFrequency _ => none
  | .rxTake _ _ => none
  | .tx _ _ => none

/-- The samples of input `i`, the latest first. -/
def samplesOf (i : Input) (h : List Event) : List (Nat × Bool) := (h.filterMap (Event.sampled i)).reverse

/-- From samples, the latest first: the time of the earliest sample of the unbroken run at the active level that the
latest sample ends, `none` where the latest sample is not at it (`10_state.md` R31, R35). -/
def runStart (active : Bool) : List (Nat × Bool) → Option Nat
  | [] => none
  | (t, level) :: earlier =>
    if level = active then
      match runStart active earlier with
      | some start => some start
      | none => some t
    else none

/-- How often the PWM frequency was programmed (`10_state.md` R52: the call count). -/
def frequencyCalls (h : List Event) : Nat :=
  h.countP fun e => match e with
    | .setPwmFrequency _ => true
    | .sample _ _ => false
    | .writeDigital _ _ => false
    | .setPwmDuty _ => false
    | .rxTake _ _ => false
    | .tx _ _ => false

/-- The history accounts for the outputs, the transmit streams and the sensor records. -/
structure Explained (s : State) : Prop where
  outputs : s.out = replayOutputs s.events
  streams : ∀ ch, s.txs.get ch = sentBytes ch s.events
  sensors : ∀ i, s.sr.get i = runStart (s.cfg.activeLevel.get i) (samplesOf i s.events)

/-! ### Which state an operation may write (`10_state.md` R60) -/

/-- The parts of the state that the access summary names, the outputs and the channels one by one. -/
inductive Part where
  | sr | fsmState | count | pwmFrequency | flags | motorDir | motorEnable | motorLock | motorDuty
  | outDir | outEn | outLock | outDuty | outFreq
  | rxqCtl | rxqDbg | txsCtl | txsDbg | lastNow
deriving DecidableEq, Repr

/-- `p` reads the same in both states. -/
def Part.Same (p : Part) (s t : State) : Prop :=
  match p with
  | .sr => t.sr = s.sr
  | .fsmState => t.vec.state = s.vec.state
  | .count => t.vec.count = s.vec.count
  | .pwmFrequency => t.vec.pwmFrequency = s.vec.pwmFrequency
  | .flags => t.vec.flags = s.vec.flags
  | .motorDir => t.vec.motorDir = s.vec.motorDir
  | .motorEnable => t.vec.motorEnable = s.vec.motorEnable
  | .motorLock => t.vec.motorLock = s.vec.motorLock
  | .motorDuty => t.vec.motorDuty = s.vec.motorDuty
  | .outDir => t.out.dir = s.out.dir
  | .outEn => t.out.en = s.out.en
  | .outLock => t.out.lock = s.out.lock
  | .outDuty => t.out.duty = s.out.duty
  | .outFreq => t.out.freq = s.out.freq
  | .rxqCtl => t.rxq.ctl = s.rxq.ctl
  | .rxqDbg => t.rxq.dbg = s.rxq.dbg
  | .txsCtl => t.txs.ctl = s.txs.ctl
  | .txsDbg => t.txs.dbg = s.txs.dbg
  | .lastNow => t.lastNow = s.lastNow

/-- The lock-release output and its record are LOCK's to write only where `P_LOCK_REENGAGES` holds. -/
def lockParts (reengages : Bool) : List Part := if reengages then [.motorLock, .outLock] else []

/-- The `w` entries of the access summary, row by row (`10_state.md` R60); `RES` and `EVENTS` apart. -/
def writableParts (reengages : Bool) : Instr → List Part
  | .updateAll => [.sr, .lastNow]
  | .isActive _ => [.lastNow]
  | .initialise => [.sr, .lastNow]
  | .tick => [.sr, .flags, .lastNow]
  | .setSpeed => [.pwmFrequency, .outFreq]
  | .lock => [.motorDuty, .outDuty] ++ lockParts reengages
  | .unlock => [.motorLock, .motorDuty, .outDuty, .outLock]
  | .setDirection _ => [.motorDir, .outDir]
  | .enable => [.motorEnable, .outEn]
  | .driveProbe _ _ =>
    [.fsmState, .pwmFrequency, .motorDir, .motorLock, .motorDuty, .outDir, .outLock, .outDuty, .outFreq]
  | .stopProbe _ => [.fsmState, .count, .motorDuty, .outDuty] ++ lockParts reengages
  | .isSensorUp => []
  | .isSensorExtremeUp => []
  | .isSensorDown => []
  | .isSensorSafety => []
  | .isDebugPressed => []
  | .isInStopState => []
  | .ctlRead => [.rxqCtl]
  | .ctlWrite _ => [.txsCtl]
  | .dbgRead => [.rxqDbg]
  | .dbgDump => [.txsDbg]

/-- The operations whose NOW is used (`30_encoding.md` R92). -/
def usesNow : Instr → Bool
  | .updateAll => true
  | .isActive _ => true
  | .initialise => true
  | .tick => true
  | .setSpeed => false
  | .lock => false
  | .unlock => false
  | .setDirection _ => false
  | .enable => false
  | .driveProbe _ _ => false
  | .stopProbe _ => false
  | .isSensorUp => false
  | .isSensorExtremeUp => false
  | .isSensorDown => false
  | .isSensorSafety => false
  | .isDebugPressed => false
  | .isInStopState => false
  | .ctlRead => false
  | .ctlWrite _ => false
  | .dbgRead => false
  | .dbgDump => false

/-- The operations whose FREQ is used (`30_encoding.md` R92). -/
def usesFreq : Instr → Bool
  | .updateAll => false
  | .isActive _ => false
  | .initialise => false
  | .tick => false
  | .setSpeed => true
  | .lock => false
  | .unlock => false
  | .setDirection _ => false
  | .enable => false
  | .driveProbe _ _ => true
  | .stopProbe _ => false
  | .isSensorUp => false
  | .isSensorExtremeUp => false
  | .isSensorDown => false
  | .isSensorSafety => false
  | .isDebugPressed => false
  | .isInStopState => false
  | .ctlRead => false
  | .ctlWrite _ => false
  | .dbgRead => false
  | .dbgDump => false

end Sys2Proof.Machine
end

