-- ==== Sys2Proof/WellFormed.lean ====
section
/-! DEFINITION. Which operations carry legal operands (`30_encoding.md` R93, R102). Every `Instr` has an encoding, since its
operands have exactly the width of their fields: what can be wrong with one is an operand value outside the operation's
legal set, and the machine then raises the operand fault of `60_exceptions.md` R252 instead of refusing. -/

namespace Sys2Proof

/-- The sensor indices 0..5 (`30_encoding.md` R93, `40_debouncer.md` R125). -/
def legalSensor (b : Byte) : Bool := b.toNat ≤ 5

/-- The targets `driveProbe` accepts: GoingDown = 1, GoingUp = 2, GoingUpAfterEmergency = 6 (`42_fsm.md` R181). -/
def legalMoveTarget (b : Byte) : Bool := b.toNat = 1 || b.toNat = 2 || b.toNat = 6

/-- The targets `stopProbe` accepts: StopDown = 3, StopUp = 4, EmergencyStop = 5 (`42_fsm.md` R186). -/
def legalStopTarget (b : Byte) : Bool := b.toNat = 3 || b.toNat = 4 || b.toNat = 5

/-- The operands are in the operation's legal set. -/
def Instr.wellFormed : Instr → Bool
  | .updateAll => true
  | .isActive sensor => legalSensor sensor
  | .initialise => true
  | .tick => true
  | .setSpeed => true
  | .lock => true
  | .unlock => true
  | .setDirection _ => true
  | .enable => true
  | .driveProbe target _ => legalMoveTarget target
  | .stopProbe target => legalStopTarget target
  | .isSensorUp => true
  | .isSensorExtremeUp => true
  | .isSensorDown => true
  | .isSensorSafety => true
  | .isDebugPressed => true
  | .isInStopState => true
  | .ctlRead => true
  | .ctlWrite _ => true
  | .dbgRead => true
  | .dbgDump => true

end Sys2Proof
end

