-- ==== Sys2Proof/Certificates/Slice0/Obligations.lean ====
section
/-! DEFINITION. The statements for the provers. Each docstring names the rule of spec/ a statement formalises; where a
clause rests on a choice of the model or on the spec's own inference, it says so. A statement about an operation gives the
whole next state, so it says at once that the operation completes, its result, and that everything else is unchanged. -/

open Sys2Proof Sys2Proof.Machine

/-! ### The operation word -/

/-- `30_encoding.md` R92, R95, R98: an operation's word decodes to that operation, for every operand its fields admit, the
illegal ones of R102 included. -/
def Obligations.DecodeOfEncode : Prop :=
  ∀ i : Instr, decode (encode i) = .ok i

/-- `30_encoding.md` R92, R100: no bit of a word is dropped: a word that decodes is the one word of its operation. -/
def Obligations.EncodeOfDecode : Prop :=
  ∀ (w : OpWord) (i : Instr), decode w = .ok i → encode i = w

/-- `30_encoding.md` R98: a word selects a row when its masked bits are the row's match; the 21 rows do not overlap, so
such a word decodes to that row's operation. -/
def Obligations.RowSelectsItsWords : Prop :=
  opcodeMap.length = 21 ∧
  ∀ row ∈ opcodeMap, ∀ w : OpWord, w &&& row.mask = row.pattern → decode w = .ok (row.build (aField w) (bField w))

/-- `30_encoding.md` R106: the worked encodings. -/
def Obligations.WorkedEncodingsDecode : Prop :=
  decode 0x00010130#32 = .ok (.driveProbe 1#8 .down) ∧
  decode 0x00000230#32 = .ok (.driveProbe 2#8 .up) ∧
  decode 0x00000630#32 = .ok (.driveProbe 6#8 .up) ∧
  decode 0x00000331#32 = .ok (.stopProbe 3#8) ∧
  decode 0x00000431#32 = .ok (.stopProbe 4#8) ∧
  decode 0x00000531#32 = .ok (.stopProbe 5#8) ∧
  decode 0x00000411#32 = .ok (.isActive 4#8) ∧
  decode 0x00000123#32 = .ok (.setDirection .down) ∧
  decode 0x00004141#32 = .ok (.ctlWrite 0x41#8)

/-- `30_encoding.md` R101: the illegal opcodes are these ranges, and a word with one raises IllegalOpcode, with no other
effect. That operations arrive through the schedule is the model's choice (log 1). -/
def Obligations.IllegalOpcodeRaises : Prop :=
  ∀ w : OpWord,
    ((opField w).toNat ≤ 0x0F ∨ 0x14 ≤ (opField w).toNat ∧ (opField w).toNat ≤ 0x1F ∨
      0x25 ≤ (opField w).toNat ∧ (opField w).toNat ≤ 0x2F ∨ 0x38 ≤ (opField w).toNat ∧ (opField w).toNat ≤ 0x3F ∨
      0x44 ≤ (opField w).toNat) →
    decode w = .error .illegalOpcode ∧
    ∀ (s : State) (tx : Transaction) (rest : List Stimulus),
      s.fault = 0x00#8 → s.pending = .operation tx :: rest → tx.word = w →
      step s = .next { s with
        pending := rest, port := { tx with freq := tx.freq % 2 ^ s.cfg.freqBits }, fault := 0x01#8 }

/-- `30_encoding.md` R100: a word whose opcode matches a row but whose masked bits do not raises ReservedBitsSet, with no
other effect. That operations arrive through the schedule is the model's choice (log 1). -/
def Obligations.ReservedBitsRaise : Prop :=
  ∀ row ∈ opcodeMap, ∀ w : OpWord, opField w = row.opcode → w &&& row.mask ≠ row.pattern →
    decode w = .error .reservedBitsSet ∧
    ∀ (s : State) (tx : Transaction) (rest : List Stimulus),
      s.fault = 0x00#8 → s.pending = .operation tx :: rest → tx.word = w →
      step s = .next { s with
        pending := rest, port := { tx with freq := tx.freq % 2 ^ s.cfg.freqBits }, fault := 0x02#8 }

/-! ### The step, faults, reset and the other agents -/

/-- A step runs the decoded operation: in a block that is not halted, the next thing scheduled being an operation whose
word decodes, the step is that operation's meaning in the state in which the schedule has lost it and the op port carries
it. The schedule is the model's choice (log 1), and so is the width of the FREQ bus as a remainder (log 6). -/
def Obligations.StepRunsDecodedOperation : Prop :=
  ∀ (s : State) (tx : Transaction) (rest : List Stimulus) (i : Instr),
    s.fault = 0x00#8 → s.pending = .operation tx :: rest → decode tx.word = .ok i →
    step s = exec i { s with pending := rest, port := { tx with freq := tx.freq % 2 ^ s.cfg.freqBits } }

/-- The word put where the step takes its next operation is the one that runs, with NOW and the draws as they stand and
FREQ the remainder of its number modulo `2^P_FREQ_BITS`. That the word is so presented is the model's choice (log 2), and
so is the remainder (log 6). -/
def Obligations.FetchedWordRuns : Prop :=
  ∀ (s : State) (i : Instr), s.fault = 0x00#8 →
    step (s.withFetchWord 32 (encode i).toNat) =
      exec i { s with port := { s.port with word := encode i, freq := s.port.freq % 2 ^ s.cfg.freqBits } }

/-- `60_exceptions.md` R253: while `FAULT` is nonzero an issued word, a host push and a rotation event change nothing, and
only a hardware reset changes `FAULT`. That they arrive through the schedule is the model's choice (log 1, 8). -/
def Obligations.HaltedBlockExecutesNothing : Prop :=
  ∀ (s : State) (a : Stimulus) (rest : List Stimulus), s.fault ≠ 0x00#8 → s.pending = a :: rest →
    ((∃ tx, a = .operation tx) ∨ (∃ ch b, a = .hostPush ch b) ∨ a = .rotate → step s = .next { s with pending := rest }) ∧
    (a ≠ .hardwareReset → ∃ t, step s = .next t ∧ t.fault = s.fault)

/-- `60_exceptions.md` R251: an operation that raises a fault writes `FAULT` and nothing else: no register, no result, no
event. -/
def Obligations.FaultsArePrecise : Prop :=
  ∀ (i : Instr) (s t : State), exec i s = .next t → t.fault ≠ s.fault → t = { s with fault := t.fault }

/-- `60_exceptions.md` R256, R250: nothing stops the model: every step of every state answers a next state. That a fault
of the block is a next state is the model's choice (log 7). -/
def Obligations.StepAlwaysAnswersNext : Prop :=
  ∀ s : State, ∃ t, step s = .next t

/-- `10_state.md` R62: the reset values of all state. -/
def Obligations.StateAfterReset : Prop :=
  (∀ i, State.reset.sr.get i = none) ∧ State.reset.vec.state = .init ∧ State.reset.vec.count = 0 ∧
  State.reset.vec.pwmFrequency = 0 ∧ (∀ i, State.reset.vec.flags.get i = false) ∧ State.reset.vec.motorDir = .up ∧
  State.reset.vec.motorEnable = false ∧ State.reset.vec.motorLock = false ∧ State.reset.vec.motorDuty = false ∧
  State.reset.out = ⟨none, none, none, none, none⟩ ∧ State.reset.res = 0x0000#16 ∧ State.reset.fault = 0x00#8 ∧
  State.reset.lastNow = none ∧ (∀ ch, State.reset.rxq.get ch = []) ∧ (∀ ch, State.reset.txs.get ch = []) ∧
  State.reset.events = []

/-- `70_reset_and_hazards.md` R280, R281, `10_state.md` R63: a hardware reset, of a halted block too, sets all of the
block's state to its reset values and changes no configuration. That the wires and the schedule stay is the model's choice
(log 9). -/
def Obligations.HardwareResetRestoresResetState : Prop :=
  ∀ (s : State) (rest : List Stimulus), s.pending = .hardwareReset :: rest →
    step s = .next { State.reset with cfg := s.cfg, port := s.port, raw := s.raw, pending := rest }

/-- `60_exceptions.md` R262: a rotation event increments the count modulo `2^P_COUNT_BITS`, in any state of the fixture. -/
def Obligations.RotationIncrementsCount : Prop :=
  ∀ (s : State) (rest : List Stimulus), s.fault = 0x00#8 → s.pending = .rotate :: rest →
    step s = .next { s with
      pending := rest, vec := { s.vec with count := (s.vec.count + 1) % 2 ^ s.cfg.countBits } }

/-- `20_memory.md` R77: a push appends the byte to its channel's queue, or, where the queue already holds `P_RX_DEPTH`
bytes, raises RxOverflow and queues nothing. -/
def Obligations.HostPushQueuesOrOverflows : Prop :=
  ∀ (s : State) (ch : Channel) (b : Byte) (rest : List Stimulus),
    s.fault = 0x00#8 → s.pending = .hostPush ch b :: rest →
    ((s.rxq.get ch).length < s.cfg.rxDepth →
      step s = .next { s with pending := rest, rxq := s.rxq.set ch (s.rxq.get ch ++ [b]) }) ∧
    (s.cfg.rxDepth ≤ (s.rxq.get ch).length → step s = .next { s with pending := rest, fault := 0x08#8 })

/-- `60_exceptions.md` R261, `70_reset_and_hazards.md` R282: a level change changes one wire and nothing of the block, a
host's read changes nothing, and with nothing scheduled the block waits. The schedule is the model's choice (log 1). -/
def Obligations.OutsideStepsLeaveTheBlock : Prop :=
  (∀ (s : State) (i : Input) (level : Bool) (rest : List Stimulus), s.pending = .setLevel i level :: rest →
    ∃ t, step s = .next t ∧ t = { s with pending := rest, raw := t.raw } ∧
      ∀ j, t.raw.get j = if j = i then level else s.raw.get j) ∧
  (∀ (s : State) (ch : Channel) (rest : List Stimulus), s.pending = .hostRead ch :: rest →
    step s = .next { s with pending := rest }) ∧
  (∀ s : State, s.pending = [] → step s = .next s)

/-! ### Sensor Debouncer -/

/-- `10_state.md` R32, `00_scope.md` R10: the thresholds, the largest of them and the warm-up. -/
def Obligations.DebounceThresholds : Prop :=
  threshold .jumper = 500 ∧ threshold .debugButton = 500 ∧ threshold .sensorExtremeUp = 200 ∧
  threshold .sensorUp = 200 ∧ threshold .sensorDown = 200 ∧ threshold .sensorSafety = 100 ∧
  maxThreshold = 500 ∧ warmup = 600

/-- `40_debouncer.md` R120: UPDATE_ALL. -/
def Obligations.UpdateAllOperation : Prop :=
  encode .updateAll = 0x00000010#32 ∧
  ∀ s : State,
    (TimeKept s → exec .updateAll s = .next { s with
      sr := .ofFn fun i =>
        if s.raw.get i = s.cfg.activeLevel.get i then some ((s.sr.get i).getD s.port.now) else none,
      events := s.events ++ [.sample s.port.now s.raw], lastNow := some s.port.now, res := 0x0000#16 }) ∧
    (¬ TimeKept s → exec .updateAll s = .next { s with fault := 0x05#8 })

/-- `40_debouncer.md` R123, R124, R125: IS_ACTIVE; an index of 6 or more faults before the time is checked. -/
def Obligations.IsActiveOperation : Prop :=
  ∀ sensor : Byte,
    encode (.isActive sensor) = 0x00000011#32 ||| (sensor.setWidth 32 <<< 8) ∧
    ∀ s : State,
      (∀ i : Input,
        [Input.jumper, .debugButton, .sensorExtremeUp, .sensorUp, .sensorDown, .sensorSafety][sensor.toNat]? = some i →
        (TimeKept s → exec (.isActive sensor) s = .next { s with
          lastNow := some s.port.now,
          res := if (i = .jumper ∧ s.cfg.jumperOverride = true) ∨
              (s.sr.get i).any (fun since => decide (s.port.now - since > threshold i)) = true
            then 0x0001#16 else 0x0000#16 }) ∧
        (¬ TimeKept s → exec (.isActive sensor) s = .next { s with fault := 0x05#8 })) ∧
      (6 ≤ sensor.toNat → exec (.isActive sensor) s = .next { s with fault := 0x03#8 })

/-- `40_debouncer.md` R130: INITIALIZE, for every end `t2` of the wait that R130 admits. That the two draws come with the
transaction is the model's choice (log 5). -/
def Obligations.InitialiseOperation : Prop :=
  encode .initialise = 0x00000012#32 ∧
  ∀ (s : State) (t2 : Nat), t2 = s.port.now + 600 + s.port.wait.extra →
    (TimeKept s → exec .initialise s = .next { s with
      sr := .ofFn fun i =>
        if s.port.wait.levels.get i = s.cfg.activeLevel.get i then
          some ((if s.raw.get i = s.cfg.activeLevel.get i then some ((s.sr.get i).getD s.port.now) else none).getD t2)
        else none,
      events := s.events ++ [.sample s.port.now s.raw, .sample t2 s.port.wait.levels],
      raw := s.port.wait.levels, lastNow := some t2, res := 0x0000#16 }) ∧
    (¬ TimeKept s → exec .initialise s = .next { s with fault := 0x05#8 })

/-- `40_debouncer.md` R135: TICK: a sample, then each cached flag from that sample. -/
def Obligations.TickOperation : Prop :=
  encode .tick = 0x00000013#32 ∧
  ∀ (s : State) (since : Input → Option Nat),
    (∀ i, since i =
      if s.raw.get i = s.cfg.activeLevel.get i then some ((s.sr.get i).getD s.port.now) else none) →
    (TimeKept s → exec .tick s = .next { s with
      sr := .ofFn since,
      vec := { s.vec with
        flags := .ofFn fun i =>
          (decide (i = .jumper) && s.cfg.jumperOverride) ||
            (since i).any fun t => decide (s.port.now - t > threshold i) },
      events := s.events ++ [.sample s.port.now s.raw], lastNow := some s.port.now, res := 0x0000#16 }) ∧
    (¬ TimeKept s → exec .tick s = .next { s with fault := 0x05#8 })

/-- `40_debouncer.md` R121, which the spec derives from R120: a second UPDATE_ALL with no raw change in between, at any
later time, leaves the sensor records as the first left them. -/
def Obligations.UpdateAllIsIdempotent : Prop :=
  ∀ (s t u : State) (later : Transaction),
    exec .updateAll s = .next t → t.fault = s.fault → TimeKept s →
    exec .updateAll { t with port := later } = .next u → u.sr = t.sr

/-- `40_debouncer.md` R127, which the spec derives from R120, R123 and R135: an input with no record, sampled at its active
level by TICKs at `t0` and at the times of a list that never decreases, has `activeSince = t0`, and the cached flag
after the last of them at `tk` is set exactly when `tk - t0` exceeds the threshold (the jumper without its override). -/
def Obligations.FlagRisesAfterThreshold : Prop :=
  ∀ (i : Input) (ticks : List (Nat × PerInput Bool)) (t0 : Nat) (s : State) (r0 : PerInput Bool),
    s.sr.get i = none → (i = .jumper → s.cfg.jumperOverride = false) →
    (∀ last, s.lastNow = some last → last ≤ t0) →
    ((t0 :: ticks.map Prod.fst).Pairwise (· ≤ ·)) →
    (∀ tick ∈ (t0, r0) :: ticks, tick.2.get i = s.cfg.activeLevel.get i) →
    ∃ u, ((t0, r0) :: ticks).foldl
        (fun (o : Host.Outcome State Fault Refusal) tick =>
          match o with
          | .next v => exec .tick { v with port := { v.port with now := tick.1 }, raw := tick.2 }
          | .fault e => .fault e
          | .refused e => .refused e)
        (.next s) = .next u ∧
      u.sr.get i = some t0 ∧
      (u.vec.flags.get i = true ↔ ((ticks.map Prod.fst).getLastD t0) - t0 > threshold i)

/-- `40_debouncer.md` R128, which the spec derives from R120 and R124: after an UPDATE_ALL, TICK or INITIALIZE whose last
sample of an input is away from its active level, the input has no record and is debounced-active at no time, the jumper
under its override apart; after a TICK its cached flag is down. -/
def Obligations.ReleaseSeenAtSample : Prop :=
  ∀ (op : Instr) (s t : State) (i : Input), op = .updateAll ∨ op = .tick ∨ op = .initialise →
    TimeKept s → exec op s = .next t → t.raw.get i ≠ s.cfg.activeLevel.get i →
    (i = .jumper → s.cfg.jumperOverride = false) →
    t.sr.get i = none ∧ (∀ now, isActiveAt t.cfg t.sr i now = false) ∧ (op = .tick → t.vec.flags.get i = false)

/-- `40_debouncer.md` R131, which the spec derives from R120, R123 and R130: what INITIALIZE guarantees, in every state
whose records are times already consumed: both samples at the active level make the input debounced-active at the end of
the wait; a second sample away from it leaves no record; only the second at it starts a record there. -/
def Obligations.InitialiseGuarantee : Prop :=
  ∀ (s t : State) (i : Input) (t2 : Nat), TimesConsumed s → TimeKept s → exec .initialise s = .next t →
    t.lastNow = some t2 →
    s.port.now + 600 ≤ t2 ∧ t.vec = s.vec ∧
    (s.raw.get i = s.cfg.activeLevel.get i → s.port.wait.levels.get i = s.cfg.activeLevel.get i →
      debounced t.sr i t2 = true) ∧
    (s.port.wait.levels.get i ≠ s.cfg.activeLevel.get i → ∀ now, debounced t.sr i now = false) ∧
    (s.raw.get i ≠ s.cfg.activeLevel.get i → s.port.wait.levels.get i = s.cfg.activeLevel.get i →
      t.sr.get i = some t2 ∧ debounced t.sr i t2 = false)

/-- `40_debouncer.md` R137, which the spec derives from R32 and R123: the threshold must be exceeded, not reached, and from
then on the input stays debounced-active while its record stands. -/
def Obligations.ThresholdIsStrict : Prop :=
  ∀ (sr : PerInput (Option Nat)) (i : Input) (t0 now : Nat), sr.get i = some t0 →
    (debounced sr i now = true ↔ t0 + threshold i < now)

/-- `40_debouncer.md` R136, which the spec derives from R124 and R135: under the override every TICK sets the cached jumper
flag, whatever the raw jumper level, and the jumper's record is still tracked (`10_state.md` R33). -/
def Obligations.JumperOverrideAtOutput : Prop :=
  ∀ s t : State, s.cfg.jumperOverride = true → TimeKept s → exec .tick s = .next t →
    t.vec.flags.jumper = true ∧
    t.sr.jumper = if s.raw.jumper = s.cfg.activeLevel.jumper then some (s.sr.jumper.getD s.port.now) else none

/-! ### Motor Controller -/

/-- `41_motor.md` R150: SET_SPEED compares with the recorded frequency and programs only a new one. -/
def Obligations.SetSpeedOperation : Prop :=
  encode .setSpeed = 0x00000020#32 ∧
  ∀ s : State,
    (s.port.freq ≠ s.vec.pwmFrequency → exec .setSpeed s = .next { s with
      vec := { s.vec with pwmFrequency := s.port.freq }, out := { s.out with freq := some s.port.freq },
      events := s.events ++ [.setPwmFrequency s.port.freq], res := 0x0000#16 }) ∧
    (s.port.freq = s.vec.pwmFrequency → exec .setSpeed s = .next { s with res := 0x0000#16 })

/-- `41_motor.md` R151, which the spec derives from R150: SET_SPEED issued twice with one frequency programs the hardware
once if that frequency was not the recorded one, and not at all otherwise. -/
def Obligations.SetSpeedTwiceProgramsOnce : Prop :=
  ∀ s t u : State, exec .setSpeed s = .next t → exec .setSpeed t = .next u →
    frequencyCalls u.events = frequencyCalls s.events + if s.port.freq = s.vec.pwmFrequency then 0 else 1

/-- `41_motor.md` R153: LOCK, for both values of `P_LOCK_REENGAGES`. -/
def Obligations.LockOperation : Prop :=
  encode .lock = 0x00000021#32 ∧
  ∀ s : State,
    (s.cfg.lockReengages = true → exec .lock s = .next { s with
      vec := { s.vec with motorDuty := false, motorLock := false },
      out := { s.out with duty := some .zero, lock := some false },
      events := s.events ++ [.setPwmDuty .zero, .writeDigital .lock false], res := 0x0000#16 }) ∧
    (s.cfg.lockReengages = false → exec .lock s = .next { s with
      vec := { s.vec with motorDuty := false }, out := { s.out with duty := some .zero },
      events := s.events ++ [.setPwmDuty .zero], res := 0x0000#16 })

/-- `41_motor.md` R156: UNLOCK, and its fault where the motor is not enabled. -/
def Obligations.UnlockOperation : Prop :=
  encode .unlock = 0x00000022#32 ∧
  ∀ s : State,
    (s.vec.motorEnable = true → exec .unlock s = .next { s with
      vec := { s.vec with motorDuty := true, motorLock := true },
      out := { s.out with duty := some .half, lock := some true },
      events := s.events ++ [.setPwmDuty .half, .writeDigital .lock true], res := 0x0000#16 }) ∧
    (s.vec.motorEnable = false → exec .unlock s = .next { s with fault := 0x06#8 })

/-- `41_motor.md` R159: SET_DIRECTION, for both values of its bit; a word with another bit of A set does not decode. -/
def Obligations.SetDirectionOperation : Prop :=
  encode (.setDirection .up) = 0x00000023#32 ∧ encode (.setDirection .down) = 0x00000123#32 ∧
  (∀ a : Byte, 2 ≤ a.toNat → decode (0x00000023#32 ||| (a.setWidth 32 <<< 8)) = .error .reservedBitsSet) ∧
  ∀ (s : State) (dir : Dir), exec (.setDirection dir) s = .next { s with
    vec := { s.vec with motorDir := dir }, out := { s.out with dir := some (decide (dir = .down)) },
    events := s.events ++ [.writeDigital .dir (decide (dir = .down))], res := 0x0000#16 }

/-- `41_motor.md` R162: ENABLE. -/
def Obligations.EnableOperation : Prop :=
  encode .enable = 0x00000024#32 ∧
  ∀ s : State, exec .enable s = .next { s with
    vec := { s.vec with motorEnable := true }, out := { s.out with en := some true },
    events := s.events ++ [.writeDigital .en true], res := 0x0000#16 }

/-- `41_motor.md` R163: no operation writes false to the enable, recorded or on the output, and no step but a hardware
reset does: each stays as it is or becomes true. That operations arrive through the schedule is the model's choice
(log 1). -/
def Obligations.EnableNeverRevoked : Prop :=
  ∀ s t : State, step s = .next t → s.pending.head? ≠ some .hardwareReset →
    (t.vec.motorEnable = s.vec.motorEnable ∨ t.vec.motorEnable = true) ∧
    (t.out.en = s.out.en ∨ t.out.en = some true)

/-- `20_memory.md` R74: the number on the PWM duty output is 0 after LOCK and `P_DUTY_HALF` after an UNLOCK that
executes. -/
def Obligations.DutyNumberWritten : Prop :=
  ∀ s t : State,
    (exec .lock s = .next t → t.pwmDutyNumber = some 0) ∧
    (s.vec.motorEnable = true → exec .unlock s = .next t → t.pwmDutyNumber = some s.cfg.dutyHalf)

/-! ### Fixture State Machine -/

/-- `42_fsm.md` R181, R184: DRIVE_PROBE: state, speed, direction, unlock, in that order; and its three faults in the order
they are checked. -/
def Obligations.DriveProbeOperation : Prop :=
  ∀ (target : Byte) (dir : Dir),
    encode (.driveProbe target dir) =
      0x00000030#32 ||| (target.setWidth 32 <<< 8) ||| (if dir = .down then 0x00010000#32 else 0x00000000#32) ∧
    ∀ s : State,
      (∀ m : FsmState, (target, m) ∈ [(1#8, .goingDown), (2#8, .goingUp), (6#8, .goingUpAfterEmergency)] →
        (s.vec.motorEnable = true → (s.vec.state = .emergencyStop → m = .goingUpAfterEmergency) →
          exec (.driveProbe target dir) s = .next { s with
            vec := { s.vec with
              state := m, pwmFrequency := s.port.freq, motorDir := dir, motorDuty := true, motorLock := true },
            out := { s.out with
              freq := if s.port.freq = s.vec.pwmFrequency then s.out.freq else some s.port.freq,
              dir := some (decide (dir = .down)), duty := some .half, lock := some true },
            events := s.events ++
              (if s.port.freq = s.vec.pwmFrequency then [] else [.setPwmFrequency s.port.freq]) ++
              [.writeDigital .dir (decide (dir = .down)), .setPwmDuty .half, .writeDigital .lock true],
            res := 0x0000#16 }) ∧
        (s.vec.motorEnable = true → s.vec.state = .emergencyStop → m ≠ .goingUpAfterEmergency →
          exec (.driveProbe target dir) s = .next { s with fault := 0x07#8 }) ∧
        (s.vec.motorEnable = false → exec (.driveProbe target dir) s = .next { s with fault := 0x06#8 })) ∧
      (target ≠ 1#8 → target ≠ 2#8 → target ≠ 6#8 →
        exec (.driveProbe target dir) s = .next { s with fault := 0x04#8 })

/-- `42_fsm.md` R186, R184: STOP_PROBE: state, count, then LOCK's writes; and its two faults. -/
def Obligations.StopProbeOperation : Prop :=
  ∀ target : Byte,
    encode (.stopProbe target) = 0x00000031#32 ||| (target.setWidth 32 <<< 8) ∧
    ∀ s : State,
      (∀ m : FsmState, (target, m) ∈ [(3#8, .stopDown), (4#8, .stopUp), (5#8, .emergencyStop)] →
        ((s.vec.state = .emergencyStop → m = .emergencyStop) →
          exec (.stopProbe target) s = .next { s with
            vec := { s.vec with
              state := m, count := 0, motorDuty := false,
              motorLock := if s.cfg.lockReengages then false else s.vec.motorLock },
            out := { s.out with
              duty := some .zero, lock := if s.cfg.lockReengages then some false else s.out.lock },
            events := s.events ++ [.setPwmDuty .zero] ++
              (if s.cfg.lockReengages then [.writeDigital .lock false] else []),
            res := 0x0000#16 }) ∧
        (s.vec.state = .emergencyStop → m ≠ .emergencyStop →
          exec (.stopProbe target) s = .next { s with fault := 0x07#8 })) ∧
      (target ≠ 3#8 → target ≠ 4#8 → target ≠ 5#8 →
        exec (.stopProbe target) s = .next { s with fault := 0x04#8 })

/-- `42_fsm.md` R190, R191, R192, R193, R194: the five sensor accessors answer from the cached flags and write `RES`
alone. -/
def Obligations.SensorAccessors : Prop :=
  encode .isSensorUp = 0x00000032#32 ∧ encode .isSensorExtremeUp = 0x00000033#32 ∧
  encode .isSensorDown = 0x00000034#32 ∧ encode .isSensorSafety = 0x00000035#32 ∧
  encode .isDebugPressed = 0x00000036#32 ∧
  ∀ s : State,
    exec .isSensorUp s = .next { s with
      res := if s.vec.flags.sensorUp = true ∨ s.vec.flags.sensorExtremeUp = true then 0x0001#16 else 0x0000#16 } ∧
    exec .isSensorExtremeUp s = .next { s with
      res := if s.vec.flags.sensorExtremeUp = true then 0x0001#16 else 0x0000#16 } ∧
    exec .isSensorDown s = .next { s with
      res := if s.vec.flags.sensorDown = true then 0x0001#16 else 0x0000#16 } ∧
    exec .isSensorSafety s = .next { s with
      res := if s.vec.flags.sensorSafety = true then 0x0001#16 else 0x0000#16 } ∧
    exec .isDebugPressed s = .next { s with
      res := if s.vec.flags.debugButton = true then 0x0001#16 else 0x0000#16 }

/-- `42_fsm.md` R195: IS_IN_STOP_STATE; Init and the moving states are no stop states. -/
def Obligations.IsInStopStateOperation : Prop :=
  encode .isInStopState = 0x00000037#32 ∧
  ∀ s : State, exec .isInStopState s = .next { s with
    res := if s.vec.state = .stopDown ∨ s.vec.state = .stopUp ∨ s.vec.state = .emergencyStop
      then 0x0001#16 else 0x0000#16 }

/-- `10_state.md` R60: what each operation may write, and so what it leaves: every part of the state outside its row of the
access summary, and always the configuration, the op port and the schedule; the raw wires too, but for INITIALIZE's wait,
during which the environment moves them (log 5). -/
def Obligations.AccessSummaryHolds : Prop :=
  ∀ (i : Instr) (s t : State), exec i s = .next t →
    (∀ p : Part, p ∉ writableParts s.cfg.lockReengages i → p.Same s t) ∧
    t.cfg = s.cfg ∧ t.port = s.port ∧ t.pending = s.pending ∧ (i ≠ .initialise → t.raw = s.raw)

/-- `42_fsm.md` R196, which the spec derives from R181, R184 and R186: the transitions, with the motor enabled and legal
targets: from EmergencyStop only to GoingUpAfterEmergency by a drive and to EmergencyStop by a stop, everything else
EStopBypass; from every other state to the target. -/
def Obligations.TransitionTable : Prop :=
  ∀ (s : State) (target : Byte) (dir : Dir), s.vec.motorEnable = true → s.fault = 0x00#8 →
    (∀ m, moveTarget target = some m → ∃ t, exec (.driveProbe target dir) s = .next t ∧
      (t.vec.state, t.fault) =
        if s.vec.state = .emergencyStop ∧ m ≠ .goingUpAfterEmergency then (.emergencyStop, 0x07#8) else (m, 0x00#8)) ∧
    (∀ m, stopTarget target = some m → ∃ t, exec (.stopProbe target) s = .next t ∧
      (t.vec.state, t.fault) =
        if s.vec.state = .emergencyStop ∧ m ≠ .emergencyStop then (.emergencyStop, 0x07#8) else (m, 0x00#8))

/-- `42_fsm.md` R184, and its derived invariant R200 (d): a step from EmergencyStop stays there, unless it is a hardware
reset, or an operation whose word decodes to DRIVE_PROBE into GoingUpAfterEmergency, which arrives there. -/
def Obligations.EmergencyStopLeftOnlyByRecovery : Prop :=
  ∀ s t : State, s.vec.state = .emergencyStop → step s = .next t →
    t.vec.state = .emergencyStop ∨ s.pending.head? = some .hardwareReset ∨
    ∃ tx dir, s.pending.head? = some (.operation tx) ∧ decode tx.word = .ok (.driveProbe 6#8 dir) ∧
      s.fault = 0x00#8 ∧ s.vec.motorEnable = true ∧ t.vec.state = .goingUpAfterEmergency

/-- `10_state.md` R41: only DRIVE_PROBE and STOP_PROBE write the fixture state, and none of them writes Init, which only a
hardware reset reaches. -/
def Obligations.InitNotReenterable : Prop :=
  ∀ s t : State, step s = .next t → s.pending.head? ≠ some .hardwareReset →
    (t.vec.state ≠ s.vec.state → ∃ tx target, s.pending.head? = some (.operation tx) ∧
      ((∃ dir, decode tx.word = .ok (.driveProbe target dir)) ∨ decode tx.word = .ok (.stopProbe target))) ∧
    (s.vec.state ≠ .init → t.vec.state ≠ .init)

/-- `42_fsm.md` R200 (a), (b), derived there: once STOP_PROBE has put the duty to zero, only UNLOCK and DRIVE_PROBE raise
it; once DRIVE_PROBE has raised duty and lock release, only LOCK and STOP_PROBE drop them. -/
def Obligations.DutyHeldBetweenMotions : Prop :=
  ∀ (i : Instr) (s t : State), exec i s = .next t →
    (i ≠ .unlock → (∀ target dir, i ≠ .driveProbe target dir) →
      s.vec.motorDuty = false → s.out.duty = some .zero → t.vec.motorDuty = false ∧ t.out.duty = some .zero) ∧
    (i ≠ .lock → (∀ target, i ≠ .stopProbe target) →
      s.vec.motorDuty = true → s.out.duty = some .half → s.vec.motorLock = true → s.out.lock = some true →
      t.vec.motorDuty = true ∧ t.out.duty = some .half ∧ t.vec.motorLock = true ∧ t.out.lock = some true)

/-! ### Command Channels -/

/-- `43_channels.md` R220: CTL_READ takes the oldest byte of the control queue, or answers NoCommand and changes nothing
else. -/
def Obligations.CtlReadOperation : Prop :=
  encode .ctlRead = 0x00000040#32 ∧
  ∀ s : State,
    (∀ b rest, s.rxq.ctl = b :: rest → exec .ctlRead s = .next { s with
      rxq := { s.rxq with ctl := rest }, events := s.events ++ [.rxTake .ctl b], res := b.setWidth 16 }) ∧
    (s.rxq.ctl = [] → exec .ctlRead s = .next { s with res := 0xFFFF#16 })

/-- `43_channels.md` R223: CTL_WRITE appends exactly one byte to the control stream. -/
def Obligations.CtlWriteOperation : Prop :=
  ∀ byte : Byte,
    encode (.ctlWrite byte) = 0x00000041#32 ||| (byte.setWidth 32 <<< 8) ∧
    ∀ s : State, exec (.ctlWrite byte) s = .next { s with
      txs := { s.txs with ctl := s.txs.ctl ++ [byte] }, events := s.events ++ [.tx .ctl byte], res := 0x0000#16 }

/-- `43_channels.md` R226: DBG_READ, the same contract on the debug queue; it emits no dump. -/
def Obligations.DbgReadOperation : Prop :=
  encode .dbgRead = 0x00000042#32 ∧
  ∀ s : State,
    (∀ b rest, s.rxq.dbg = b :: rest → exec .dbgRead s = .next { s with
      rxq := { s.rxq with dbg := rest }, events := s.events ++ [.rxTake .dbg b], res := b.setWidth 16 }) ∧
    (s.rxq.dbg = [] → exec .dbgRead s = .next { s with res := 0xFFFF#16 })

/-- `43_channels.md` R230, R231: DBG_DUMP appends the whole dump of the block's own state vector to the debug stream: `<`,
the state code, the ten booleans in order, `.`, the frequency, `.`, the count, `>` and the terminator. -/
def Obligations.DbgDumpOperation : Prop :=
  encode .dbgDump = 0x00000043#32 ∧
  ∀ (s : State) (dump : List Byte),
    dump = [0x3C#8] ++ [stateCode s.vec.state]
      ++ boolText s.vec.flags.jumper ++ boolText s.vec.flags.debugButton ++ boolText s.vec.flags.sensorExtremeUp
      ++ boolText s.vec.flags.sensorUp ++ boolText s.vec.flags.sensorDown ++ boolText s.vec.flags.sensorSafety
      ++ boolText (decide (s.vec.motorDir = .down)) ++ boolText s.vec.motorEnable ++ boolText s.vec.motorLock
      ++ boolText s.vec.motorDuty
      ++ [0x2E#8] ++ decimal s.vec.pwmFrequency ++ [0x2E#8] ++ decimal s.vec.count ++ [0x3E#8]
      ++ terminatorBytes s.cfg.terminator →
    exec .dbgDump s = .next { s with
      txs := { s.txs with dbg := s.txs.dbg ++ dump }, events := s.events ++ dump.map (.tx .dbg), res := 0x0000#16 }

/-- `43_channels.md` R232, R233: the state codes and the text of the two Bool values, as bytes. -/
def Obligations.DumpAlphabet : Prop :=
  stateCode .init = 0x69#8 ∧ stateCode .goingDown = 0x64#8 ∧ stateCode .goingUp = 0x75#8 ∧
  stateCode .stopDown = 0x44#8 ∧ stateCode .stopUp = 0x55#8 ∧ stateCode .emergencyStop = 0x65#8 ∧
  stateCode .goingUpAfterEmergency = 0x62#8 ∧
  boolText false = [0x66#8, 0x61#8, 0x6C#8, 0x73#8, 0x65#8] ∧ boolText true = [0x74#8, 0x72#8, 0x75#8, 0x65#8]

/-- `43_channels.md` R236: the decimal form: ASCII digits, most significant first, whose positional value is the number,
with no leading zero, and the one byte `0` for zero. -/
def Obligations.DecimalDigits : Prop :=
  decimal 0 = [0x30#8] ∧
  ∀ n : Nat,
    (∀ d ∈ decimal n, 0x30 ≤ d.toNat ∧ d.toNat ≤ 0x39) ∧
    (decimal n).foldl (fun value d => 10 * value + (d.toNat - 0x30)) 0 = n ∧
    (n ≠ 0 → ∃ d rest, decimal n = d :: rest ∧ d ≠ 0x30#8)

/-- `43_channels.md` R237, derived there: the length of a dump; never under 47 bytes before the terminator. -/
def Obligations.DumpLength : Prop :=
  ∀ (term : Terminator) (v : StateVector),
    (serialize term v).length =
      1 + 1 + ((dumpBools v).map fun b => (boolText b).length).sum + 1 + (decimal v.pwmFrequency).length + 1 +
        (decimal v.count).length + 1 + (terminatorBytes term).length ∧
    47 + (terminatorBytes term).length ≤ (serialize term v).length

/-- `43_channels.md` R238, derived there from R231, R233 and R236: the positional parse of a dump is unique: two state
vectors with the same dump are equal in all 13 fields. -/
def Obligations.DumpDeterminesVector : Prop :=
  ∀ (term : Terminator) (v w : StateVector), serialize term v = serialize term w → v = w

/-- `10_state.md` R57, `20_memory.md` R76, R77: the receive queue is a FIFO: bytes the control host pushes into an empty
queue with room for them are read back by as many CTL_READs, in the order of pushing, and leave it empty. The schedule is
the model's choice (log 1). -/
def Obligations.ControlQueueIsFifo : Prop :=
  ∀ (bytes : List Byte) (s : State), s.fault = 0x00#8 → s.rxq.ctl = [] → bytes.length ≤ s.cfg.rxDepth →
    s.pending = bytes.map (.hostPush .ctl) ++ bytes.map (fun _ => .operation { s.port with word := encode .ctlRead }) →
    ∃ t, Host.Core.run Sys2Proof.core (bytes.length + bytes.length) s = .next t ∧ t.pending = [] ∧ t.rxq.ctl = [] ∧
      t.events = s.events ++ bytes.map (.rxTake .ctl)

/-! ### Conditions every step keeps -/

/-- The conditions of `Coherent` hold after reset. -/
def Obligations.CoherentAtReset : Prop := Coherent State.reset

/-- The conditions of `Coherent` are kept by every step, of every state: fault codes and results stay in their lists
(`60_exceptions.md` R252, `30_encoding.md` R96), counter and frequencies in their widths (`10_state.md` R42, R43), record
times are consumed times (`40_debouncer.md` R123), outputs agree with their records (`10_state.md` R51, `41_motor.md`
R164), queues respect their depth (`10_state.md` R57), and a moving state has the motor enabled (`42_fsm.md` R181). -/
def Obligations.CoherentKeptByStep : Prop :=
  ∀ s t : State, Coherent s → step s = .next t → Coherent t

/-- The empty history accounts for the reset state. -/
def Obligations.ExplainedAtReset : Prop := Explained State.reset

/-- `10_state.md` R31, R35, R50, R52, `20_memory.md` R83: in every state whose outputs, transmit streams and sensor records
the event history accounts for, a step keeps it so: each output is the last value written to it, each stream the bytes
sent in order, each record the start of the unbroken run of samples at the active level. -/
def Obligations.HistoryExplainsState : Prop :=
  ∀ s t : State, Explained s → step s = .next t → Explained t

/-- `10_state.md` R52, R63: no step changes the configuration, and none but a hardware reset shrinks the event history. -/
def Obligations.HistoryGrowsConfigurationStays : Prop :=
  ∀ s t : State, step s = .next t →
    t.cfg = s.cfg ∧ (s.pending.head? ≠ some .hardwareReset → ∃ new, t.events = s.events ++ new)

/-- `30_encoding.md` R92: an ignored bus may carry any value: the operation neither reads it nor faults on it. An operation
that ignores NOW, or FREQ, does the same for any value of it, and one that ignores NOW leaves `lastNow`. -/
def Obligations.IgnoredBusesAreNotRead : Prop :=
  ∀ (i : Instr) (s t : State) (n f : Nat), exec i s = .next t →
    (usesNow i = false → t.lastNow = s.lastNow ∧
      exec i { s with port := { s.port with now := n } } = .next { t with port := { t.port with now := n } }) ∧
    (usesFreq i = false →
      exec i { s with port := { s.port with freq := f } } = .next { t with port := { t.port with freq := f } })
end

