-- ==== Sys2Proof/Laws/Data.lean ====
section
/-! SUPPORT. The small lemmas of the per-input and per-channel records. -/

namespace Sys2Proof

@[simp] theorem PerInput.get_ofFn {α : Type} (f : Input → α) (i : Input) : (PerInput.ofFn f).get i = f i := by
  cases i <;> rfl

@[simp] theorem PerInput.get_all {α : Type} (a : α) (i : Input) : (PerInput.all a).get i = a := by
  cases i <;> rfl

@[simp] theorem PerInput.get_set {α : Type} (p : PerInput α) (i j : Input) (a : α) :
    (p.set i a).get j = if j = i then a else p.get j := by
  simp [PerInput.set]

/-- Two records with the same value for every input are equal. -/
theorem PerInput.ext_get {α : Type} (p q : PerInput α) (h : ∀ i, p.get i = q.get i) : p = q :=
  PerInput.ext (h .jumper) (h .debugButton) (h .sensorExtremeUp) (h .sensorUp) (h .sensorDown) (h .sensorSafety)

@[simp] theorem PerInput.ofFn_get {α : Type} (p : PerInput α) : PerInput.ofFn p.get = p :=
  PerInput.ext_get _ _ fun i => PerInput.get_ofFn _ i

end Sys2Proof

namespace Sys2Proof.Machine

@[simp] theorem PerChannel.get_set_same {α : Type} (p : PerChannel α) (ch : Channel) (a : α) : (p.set ch a).get ch = a := by
  cases ch <;> rfl

theorem PerChannel.get_set_other {α : Type} (p : PerChannel α) (ch c : Channel) (a : α) (h : c ≠ ch) :
    (p.set ch a).get c = p.get c := by
  cases ch <;> cases c <;> first | rfl | exact absurd rfl h

/-- Two records with the same value for both channels are equal. -/
theorem PerChannel.ext_get {α : Type} (p q : PerChannel α) (h : ∀ ch, p.get ch = q.get ch) : p = q :=
  PerChannel.ext (h .ctl) (h .dbg)

end Sys2Proof.Machine
end

