-- ==== Sys2Proof/Laws/State.lean ====
section
/-! SUPPORT. The field updates of `State`: for each update, what every field reads afterwards. No later proof unfolds a
record update. -/

namespace Sys2Proof.Machine

section
variable (s : State)

section
variable (x : StateVector)

@[simp] theorem State.withVec_cfg : (s.withVec x).cfg = s.cfg := rfl
@[simp] theorem State.withVec_vec : (s.withVec x).vec = x := rfl
@[simp] theorem State.withVec_sr : (s.withVec x).sr = s.sr := rfl
@[simp] theorem State.withVec_out : (s.withVec x).out = s.out := rfl
@[simp] theorem State.withVec_res : (s.withVec x).res = s.res := rfl
@[simp] theorem State.withVec_fault : (s.withVec x).fault = s.fault := rfl
@[simp] theorem State.withVec_lastNow : (s.withVec x).lastNow = s.lastNow := rfl
@[simp] theorem State.withVec_rxq : (s.withVec x).rxq = s.rxq := rfl
@[simp] theorem State.withVec_txs : (s.withVec x).txs = s.txs := rfl
@[simp] theorem State.withVec_events : (s.withVec x).events = s.events := rfl
@[simp] theorem State.withVec_port : (s.withVec x).port = s.port := rfl
@[simp] theorem State.withVec_raw : (s.withVec x).raw = s.raw := rfl
@[simp] theorem State.withVec_pending : (s.withVec x).pending = s.pending := rfl

end

section
variable (x : PerInput (Option Nat))

@[simp] theorem State.withSr_cfg : (s.withSr x).cfg = s.cfg := rfl
@[simp] theorem State.withSr_vec : (s.withSr x).vec = s.vec := rfl
@[simp] theorem State.withSr_sr : (s.withSr x).sr = x := rfl
@[simp] theorem State.withSr_out : (s.withSr x).out = s.out := rfl
@[simp] theorem State.withSr_res : (s.withSr x).res = s.res := rfl
@[simp] theorem State.withSr_fault : (s.withSr x).fault = s.fault := rfl
@[simp] theorem State.withSr_lastNow : (s.withSr x).lastNow = s.lastNow := rfl
@[simp] theorem State.withSr_rxq : (s.withSr x).rxq = s.rxq := rfl
@[simp] theorem State.withSr_txs : (s.withSr x).txs = s.txs := rfl
@[simp] theorem State.withSr_events : (s.withSr x).events = s.events := rfl
@[simp] theorem State.withSr_port : (s.withSr x).port = s.port := rfl
@[simp] theorem State.withSr_raw : (s.withSr x).raw = s.raw := rfl
@[simp] theorem State.withSr_pending : (s.withSr x).pending = s.pending := rfl

end

section
variable (x : Outputs)

@[simp] theorem State.withOut_cfg : (s.withOut x).cfg = s.cfg := rfl
@[simp] theorem State.withOut_vec : (s.withOut x).vec = s.vec := rfl
@[simp] theorem State.withOut_sr : (s.withOut x).sr = s.sr := rfl
@[simp] theorem State.withOut_out : (s.withOut x).out = x := rfl
@[simp] theorem State.withOut_res : (s.withOut x).res = s.res := rfl
@[simp] theorem State.withOut_fault : (s.withOut x).fault = s.fault := rfl
@[simp] theorem State.withOut_lastNow : (s.withOut x).lastNow = s.lastNow := rfl
@[simp] theorem State.withOut_rxq : (s.withOut x).rxq = s.rxq := rfl
@[simp] theorem State.withOut_txs : (s.withOut x).txs = s.txs := rfl
@[simp] theorem State.withOut_events : (s.withOut x).events = s.events := rfl
@[simp] theorem State.withOut_port : (s.withOut x).port = s.port := rfl
@[simp] theorem State.withOut_raw : (s.withOut x).raw = s.raw := rfl
@[simp] theorem State.withOut_pending : (s.withOut x).pending = s.pending := rfl

end

section
variable (x : ResultWord)

@[simp] theorem State.withRes_cfg : (s.withRes x).cfg = s.cfg := rfl
@[simp] theorem State.withRes_vec : (s.withRes x).vec = s.vec := rfl
@[simp] theorem State.withRes_sr : (s.withRes x).sr = s.sr := rfl
@[simp] theorem State.withRes_out : (s.withRes x).out = s.out := rfl
@[simp] theorem State.withRes_res : (s.withRes x).res = x := rfl
@[simp] theorem State.withRes_fault : (s.withRes x).fault = s.fault := rfl
@[simp] theorem State.withRes_lastNow : (s.withRes x).lastNow = s.lastNow := rfl
@[simp] theorem State.withRes_rxq : (s.withRes x).rxq = s.rxq := rfl
@[simp] theorem State.withRes_txs : (s.withRes x).txs = s.txs := rfl
@[simp] theorem State.withRes_events : (s.withRes x).events = s.events := rfl
@[simp] theorem State.withRes_port : (s.withRes x).port = s.port := rfl
@[simp] theorem State.withRes_raw : (s.withRes x).raw = s.raw := rfl
@[simp] theorem State.withRes_pending : (s.withRes x).pending = s.pending := rfl

end

section
variable (x : FaultWord)

@[simp] theorem State.withFault_cfg : (s.withFault x).cfg = s.cfg := rfl
@[simp] theorem State.withFault_vec : (s.withFault x).vec = s.vec := rfl
@[simp] theorem State.withFault_sr : (s.withFault x).sr = s.sr := rfl
@[simp] theorem State.withFault_out : (s.withFault x).out = s.out := rfl
@[simp] theorem State.withFault_res : (s.withFault x).res = s.res := rfl
@[simp] theorem State.withFault_fault : (s.withFault x).fault = x := rfl
@[simp] theorem State.withFault_lastNow : (s.withFault x).lastNow = s.lastNow := rfl
@[simp] theorem State.withFault_rxq : (s.withFault x).rxq = s.rxq := rfl
@[simp] theorem State.withFault_txs : (s.withFault x).txs = s.txs := rfl
@[simp] theorem State.withFault_events : (s.withFault x).events = s.events := rfl
@[simp] theorem State.withFault_port : (s.withFault x).port = s.port := rfl
@[simp] theorem State.withFault_raw : (s.withFault x).raw = s.raw := rfl
@[simp] theorem State.withFault_pending : (s.withFault x).pending = s.pending := rfl

end

section
variable (x : Option Nat)

@[simp] theorem State.withLastNow_cfg : (s.withLastNow x).cfg = s.cfg := rfl
@[simp] theorem State.withLastNow_vec : (s.withLastNow x).vec = s.vec := rfl
@[simp] theorem State.withLastNow_sr : (s.withLastNow x).sr = s.sr := rfl
@[simp] theorem State.withLastNow_out : (s.withLastNow x).out = s.out := rfl
@[simp] theorem State.withLastNow_res : (s.withLastNow x).res = s.res := rfl
@[simp] theorem State.withLastNow_fault : (s.withLastNow x).fault = s.fault := rfl
@[simp] theorem State.withLastNow_lastNow : (s.withLastNow x).lastNow = x := rfl
@[simp] theorem State.withLastNow_rxq : (s.withLastNow x).rxq = s.rxq := rfl
@[simp] theorem State.withLastNow_txs : (s.withLastNow x).txs = s.txs := rfl
@[simp] theorem State.withLastNow_events : (s.withLastNow x).events = s.events := rfl
@[simp] theorem State.withLastNow_port : (s.withLastNow x).port = s.port := rfl
@[simp] theorem State.withLastNow_raw : (s.withLastNow x).raw = s.raw := rfl
@[simp] theorem State.withLastNow_pending : (s.withLastNow x).pending = s.pending := rfl

end

section
variable (x : PerChannel (List Byte))

@[simp] theorem State.withRxq_cfg : (s.withRxq x).cfg = s.cfg := rfl
@[simp] theorem State.withRxq_vec : (s.withRxq x).vec = s.vec := rfl
@[simp] theorem State.withRxq_sr : (s.withRxq x).sr = s.sr := rfl
@[simp] theorem State.withRxq_out : (s.withRxq x).out = s.out := rfl
@[simp] theorem State.withRxq_res : (s.withRxq x).res = s.res := rfl
@[simp] theorem State.withRxq_fault : (s.withRxq x).fault = s.fault := rfl
@[simp] theorem State.withRxq_lastNow : (s.withRxq x).lastNow = s.lastNow := rfl
@[simp] theorem State.withRxq_rxq : (s.withRxq x).rxq = x := rfl
@[simp] theorem State.withRxq_txs : (s.withRxq x).txs = s.txs := rfl
@[simp] theorem State.withRxq_events : (s.withRxq x).events = s.events := rfl
@[simp] theorem State.withRxq_port : (s.withRxq x).port = s.port := rfl
@[simp] theorem State.withRxq_raw : (s.withRxq x).raw = s.raw := rfl
@[simp] theorem State.withRxq_pending : (s.withRxq x).pending = s.pending := rfl

end

section
variable (x : PerChannel (List Byte))

@[simp] theorem State.withTxs_cfg : (s.withTxs x).cfg = s.cfg := rfl
@[simp] theorem State.withTxs_vec : (s.withTxs x).vec = s.vec := rfl
@[simp] theorem State.withTxs_sr : (s.withTxs x).sr = s.sr := rfl
@[simp] theorem State.withTxs_out : (s.withTxs x).out = s.out := rfl
@[simp] theorem State.withTxs_res : (s.withTxs x).res = s.res := rfl
@[simp] theorem State.withTxs_fault : (s.withTxs x).fault = s.fault := rfl
@[simp] theorem State.withTxs_lastNow : (s.withTxs x).lastNow = s.lastNow := rfl
@[simp] theorem State.withTxs_rxq : (s.withTxs x).rxq = s.rxq := rfl
@[simp] theorem State.withTxs_txs : (s.withTxs x).txs = x := rfl
@[simp] theorem State.withTxs_events : (s.withTxs x).events = s.events := rfl
@[simp] theorem State.withTxs_port : (s.withTxs x).port = s.port := rfl
@[simp] theorem State.withTxs_raw : (s.withTxs x).raw = s.raw := rfl
@[simp] theorem State.withTxs_pending : (s.withTxs x).pending = s.pending := rfl

end

section
variable (x : List Event)

@[simp] theorem State.withEvents_cfg : (s.withEvents x).cfg = s.cfg := rfl
@[simp] theorem State.withEvents_vec : (s.withEvents x).vec = s.vec := rfl
@[simp] theorem State.withEvents_sr : (s.withEvents x).sr = s.sr := rfl
@[simp] theorem State.withEvents_out : (s.withEvents x).out = s.out := rfl
@[simp] theorem State.withEvents_res : (s.withEvents x).res = s.res := rfl
@[simp] theorem State.withEvents_fault : (s.withEvents x).fault = s.fault := rfl
@[simp] theorem State.withEvents_lastNow : (s.withEvents x).lastNow = s.lastNow := rfl
@[simp] theorem State.withEvents_rxq : (s.withEvents x).rxq = s.rxq := rfl
@[simp] theorem State.withEvents_txs : (s.withEvents x).txs = s.txs := rfl
@[simp] theorem State.withEvents_events : (s.withEvents x).events = x := rfl
@[simp] theorem State.withEvents_port : (s.withEvents x).port = s.port := rfl
@[simp] theorem State.withEvents_raw : (s.withEvents x).raw = s.raw := rfl
@[simp] theorem State.withEvents_pending : (s.withEvents x).pending = s.pending := rfl

end

section
variable (x : Transaction)

@[simp] theorem State.withPort_cfg : (s.withPort x).cfg = s.cfg := rfl
@[simp] theorem State.withPort_vec : (s.withPort x).vec = s.vec := rfl
@[simp] theorem State.withPort_sr : (s.withPort x).sr = s.sr := rfl
@[simp] theorem State.withPort_out : (s.withPort x).out = s.out := rfl
@[simp] theorem State.withPort_res : (s.withPort x).res = s.res := rfl
@[simp] theorem State.withPort_fault : (s.withPort x).fault = s.fault := rfl
@[simp] theorem State.withPort_lastNow : (s.withPort x).lastNow = s.lastNow := rfl
@[simp] theorem State.withPort_rxq : (s.withPort x).rxq = s.rxq := rfl
@[simp] theorem State.withPort_txs : (s.withPort x).txs = s.txs := rfl
@[simp] theorem State.withPort_events : (s.withPort x).events = s.events := rfl
@[simp] theorem State.withPort_port : (s.withPort x).port = x := rfl
@[simp] theorem State.withPort_raw : (s.withPort x).raw = s.raw := rfl
@[simp] theorem State.withPort_pending : (s.withPort x).pending = s.pending := rfl

end

section
variable (x : PerInput Bool)

@[simp] theorem State.withRaw_cfg : (s.withRaw x).cfg = s.cfg := rfl
@[simp] theorem State.withRaw_vec : (s.withRaw x).vec = s.vec := rfl
@[simp] theorem State.withRaw_sr : (s.withRaw x).sr = s.sr := rfl
@[simp] theorem State.withRaw_out : (s.withRaw x).out = s.out := rfl
@[simp] theorem State.withRaw_res : (s.withRaw x).res = s.res := rfl
@[simp] theorem State.withRaw_fault : (s.withRaw x).fault = s.fault := rfl
@[simp] theorem State.withRaw_lastNow : (s.withRaw x).lastNow = s.lastNow := rfl
@[simp] theorem State.withRaw_rxq : (s.withRaw x).rxq = s.rxq := rfl
@[simp] theorem State.withRaw_txs : (s.withRaw x).txs = s.txs := rfl
@[simp] theorem State.withRaw_events : (s.withRaw x).events = s.events := rfl
@[simp] theorem State.withRaw_port : (s.withRaw x).port = s.port := rfl
@[simp] theorem State.withRaw_raw : (s.withRaw x).raw = x := rfl
@[simp] theorem State.withRaw_pending : (s.withRaw x).pending = s.pending := rfl

end

section
variable (x : List Stimulus)

@[simp] theorem State.withPending_cfg : (s.withPending x).cfg = s.cfg := rfl
@[simp] theorem State.withPending_vec : (s.withPending x).vec = s.vec := rfl
@[simp] theorem State.withPending_sr : (s.withPending x).sr = s.sr := rfl
@[simp] theorem State.withPending_out : (s.withPending x).out = s.out := rfl
@[simp] theorem State.withPending_res : (s.withPending x).res = s.res := rfl
@[simp] theorem State.withPending_fault : (s.withPending x).fault = s.fault := rfl
@[simp] theorem State.withPending_lastNow : (s.withPending x).lastNow = s.lastNow := rfl
@[simp] theorem State.withPending_rxq : (s.withPending x).rxq = s.rxq := rfl
@[simp] theorem State.withPending_txs : (s.withPending x).txs = s.txs := rfl
@[simp] theorem State.withPending_events : (s.withPending x).events = s.events := rfl
@[simp] theorem State.withPending_port : (s.withPending x).port = s.port := rfl
@[simp] theorem State.withPending_raw : (s.withPending x).raw = s.raw := rfl
@[simp] theorem State.withPending_pending : (s.withPending x).pending = x := rfl

end

end

end Sys2Proof.Machine
end

