-- ==== Sys2Proof/Laws/Ops.lean ====
section
/-! SUPPORT. For each shared operation, once, everything it can do; callers cite these and unfold nothing. -/

namespace Sys2Proof.Machine

variable (s t : State)

/-! ### Outcomes -/

/-- Raising a fault changes `FAULT` alone. -/
theorem recordFault_eq (c : FaultCode) : recordFault c s = { s with fault := c.code } := rfl

/-- Raising answers the state with the fault recorded and nothing else. -/
@[simp] theorem raise_eq_next (c : FaultCode) : raise c s = .next t ↔ { s with fault := c.code } = t := by
  simp [raise, recordFault_eq]

/-- Finishing answers the state with the result written and nothing else. -/
@[simp] theorem finish_eq_next (r : ResultWord) : finish r s = .next t ↔ { s with res := r } = t := by
  simp [finish, State.withRes]

/-- Every code lies in 0x01..0x08. -/
theorem FaultCode.code_range (c : FaultCode) : 1 ≤ c.code.toNat ∧ c.code.toNat ≤ 8 := by
  cases c <;> decide

/-- Recording a fault halts the block. -/
@[simp] theorem recordFault_halted (c : FaultCode) : (recordFault c s).halted = true := by
  cases c <;> simp [State.halted, recordFault, FaultCode.code]

/-! ### Capability calls -/

theorem emit_eq (e : Event) : emit e s = { s with events := s.events ++ [e] } := rfl

theorem writeDigital_eq (pin : Pin) (level : Bool) :
    writeDigital pin level s =
      { s with out := s.out.writePin pin level, events := s.events ++ [.writeDigital pin level] } := rfl

theorem setPwmDuty_eq (d : Duty) :
    setPwmDuty d s = { s with out := { s.out with duty := some d }, events := s.events ++ [.setPwmDuty d] } := rfl

theorem setPwmFrequency_eq (f : Nat) :
    setPwmFrequency f s =
      { s with out := { s.out with freq := some f }, events := s.events ++ [.setPwmFrequency f] } := rfl

/-! ### Channels -/

/-- A pop either finds the queue empty and changes nothing, or takes the head and records it. -/
theorem rxPop_cases (ch : Channel) :
    (s.rxq.get ch = [] ∧ rxHead ch s = none ∧ rxPop ch s = s) ∨
    ∃ b rest, s.rxq.get ch = b :: rest ∧ rxHead ch s = some b ∧
      rxPop ch s = { s with rxq := s.rxq.set ch rest, events := s.events ++ [.rxTake ch b] } := by
  unfold rxHead rxPop
  cases h : s.rxq.get ch with
  | nil => simp
  | cons b rest => exact .inr ⟨b, rest, rfl, rfl, rfl⟩

theorem txAppend_eq (ch : Channel) (bytes : List Byte) :
    txAppend ch bytes s =
      { s with txs := s.txs.set ch (s.txs.get ch ++ bytes), events := s.events ++ bytes.map (.tx ch) } := rfl

/-! ### Sampling and time -/

/-- `checkTime` passes exactly when NOW is not before the last consumed time. -/
@[simp] theorem timeOk_iff (now : Nat) : timeOk now s = true ↔ ∀ last, s.lastNow = some last → last ≤ now := by
  unfold timeOk
  cases h : s.lastNow <;> simp

theorem sampleAndUpdate_eq (now : Nat) :
    sampleAndUpdate now s =
      { s with
        sr := .ofFn fun i => updateOne (s.cfg.activeLevel.get i) (s.raw.get i) now (s.sr.get i),
        events := s.events ++ [.sample now s.raw] } := rfl

/-- `updateOne` keeps an earlier time, starts one at `now`, or clears it. -/
theorem updateOne_eq (active level : Bool) (now : Nat) (since : Option Nat) :
    updateOne active level now since = if level = active then some (since.getD now) else none := by
  unfold updateOne
  cases since <;> rfl

theorem refreshFlags_eq (now : Nat) :
    refreshFlags now s =
      { s with vec := { s.vec with flags := .ofFn fun i => isActiveAt s.cfg s.sr i now } } := rfl

theorem consumeTime_eq (now : Nat) : consumeTime now s = { s with lastNow := some now } := rfl

/-! ### Operation bodies -/

/-- SET_SPEED's body programs the frequency exactly when it differs from the recorded one. -/
theorem setSpeedBody_cases (f : Nat) :
    (f = s.vec.pwmFrequency ∧ setSpeedBody f s = s) ∨
    (f ≠ s.vec.pwmFrequency ∧ setSpeedBody f s =
      { s with
        vec := { s.vec with pwmFrequency := f }, out := { s.out with freq := some f },
        events := s.events ++ [.setPwmFrequency f] }) := by
  unfold setSpeedBody
  by_cases h : f = s.vec.pwmFrequency
  · simp [h]
  · exact .inr ⟨h, by rw [if_neg h]; rfl⟩

/-- SET_SPEED's body as one record: the recorded frequency is `f` either way. -/
theorem setSpeedBody_eq (f : Nat) :
    setSpeedBody f s =
      { s with
        vec := { s.vec with pwmFrequency := f },
        out := { s.out with freq := if f = s.vec.pwmFrequency then s.out.freq else some f },
        events := s.events ++ if f = s.vec.pwmFrequency then [] else [.setPwmFrequency f] } := by
  rcases setSpeedBody_cases s f with ⟨rfl, h⟩ | ⟨hne, h⟩
  · simp [h]
  · simp [h, hne]

/-- LOCK's body drops the duty, and the lock release where the configuration says so. -/
theorem lockBody_eq :
    lockBody s =
      if s.cfg.lockReengages then
        { s with
          vec := { s.vec with motorDuty := false, motorLock := false },
          out := { s.out with duty := some .zero, lock := some false },
          events := s.events ++ [.setPwmDuty .zero, .writeDigital .lock false] }
      else
        { s with
          vec := { s.vec with motorDuty := false }, out := { s.out with duty := some .zero },
          events := s.events ++ [.setPwmDuty .zero] } := by
  simp [lockBody, setPwmDuty_eq, writeDigital_eq, State.withVec, Outputs.writePin]

/-- UNLOCK's body raises the duty and asserts the lock release, in that order. -/
theorem unlockBody_eq :
    unlockBody s =
      { s with
        vec := { s.vec with motorDuty := true, motorLock := true },
        out := { s.out with duty := some .half, lock := some true },
        events := s.events ++ [.setPwmDuty .half, .writeDigital .lock true] } := by
  simp [unlockBody, setPwmDuty_eq, writeDigital_eq, State.withVec, Outputs.writePin]

theorem setDirectionBody_eq (dir : Dir) :
    setDirectionBody dir s =
      { s with
        vec := { s.vec with motorDir := dir }, out := { s.out with dir := some (dirLevel dir) },
        events := s.events ++ [.writeDigital .dir (dirLevel dir)] } := rfl

theorem enableBody_eq :
    enableBody s =
      { s with
        vec := { s.vec with motorEnable := true }, out := { s.out with en := some true },
        events := s.events ++ [.writeDigital .en true] } := rfl

theorem enterState_eq (target : FsmState) : enterState target s = { s with vec := { s.vec with state := target } } := rfl

theorem clearCount_eq : clearCount s = { s with vec := { s.vec with count := 0 } } := rfl

/-! ### The other agents -/

/-- A rotation event does nothing to a halted block and increments the count of any other. -/
theorem rotate_cases :
    (s.halted = true ∧ rotate s = s) ∨
    (s.halted = false ∧
      rotate s = { s with vec := { s.vec with count := (s.vec.count + 1) % 2 ^ s.cfg.countBits } }) := by
  unfold rotate
  cases h : s.halted
  · exact .inr ⟨rfl, rfl⟩
  · exact .inl ⟨rfl, rfl⟩

/-- A push does nothing to a halted block; otherwise it queues the byte, or overflows a full queue. -/
theorem hostPush_cases (ch : Channel) (b : Byte) :
    (s.halted = true ∧ hostPush ch b s = s) ∨
    (s.halted = false ∧ (s.rxq.get ch).length < s.cfg.rxDepth ∧
      hostPush ch b s = { s with rxq := s.rxq.set ch (s.rxq.get ch ++ [b]) }) ∨
    (s.halted = false ∧ s.cfg.rxDepth ≤ (s.rxq.get ch).length ∧
      hostPush ch b s = { s with fault := FaultCode.rxOverflow.code }) := by
  unfold hostPush
  cases h : s.halted
  · by_cases hd : (s.rxq.get ch).length < s.cfg.rxDepth
    · exact .inr (.inl ⟨rfl, hd, by simp [hd, State.withRxq]⟩)
    · exact .inr (.inr ⟨rfl, by omega, by simp [hd, recordFault_eq]⟩)
  · exact .inl ⟨rfl, rfl⟩

theorem setLevel_eq (i : Input) (level : Bool) : setLevel i level s = { s with raw := s.raw.set i level } := rfl

theorem present_eq (tx : Transaction) :
    present tx s = { s with port := { tx with freq := tx.freq % 2 ^ s.cfg.freqBits } } := rfl

/-- Everything a step can be: idle, an action of the environment or of a host, an operation dropped by a halted block, or
an operation issued to a block that is not halted. -/
theorem step_cases (h : step s = .next t) :
    (s.pending = [] ∧ t = s) ∨
    ∃ a rest, s.pending = a :: rest ∧
      ((∃ i level, a = .setLevel i level ∧ t = setLevel i level (s.withPending rest)) ∨
       (a = .rotate ∧ t = rotate (s.withPending rest)) ∨
       (∃ ch b, a = .hostPush ch b ∧ t = hostPush ch b (s.withPending rest)) ∨
       (∃ ch, a = .hostRead ch ∧ t = s.withPending rest) ∨
       (a = .hardwareReset ∧ t = hardwareReset (s.withPending rest)) ∨
       (∃ tx, a = .operation tx ∧ s.halted = true ∧ t = s.withPending rest) ∨
       (∃ tx e, a = .operation tx ∧ s.halted = false ∧ decode tx.word = .error e ∧
         raise (decodeFault e) (present tx (s.withPending rest)) = .next t) ∨
       (∃ tx i, a = .operation tx ∧ s.halted = false ∧ decode tx.word = .ok i ∧
         exec i (present tx (s.withPending rest)) = .next t)) := by
  unfold step arrive at h
  cases hp : s.pending with
  | nil => simp [hp] at h; exact .inl ⟨rfl, h.symm⟩
  | cons a rest =>
    refine .inr ⟨a, rest, rfl, ?_⟩
    simp only [hp] at h
    cases a with
    | setLevel i level => simp at h; exact .inl ⟨i, level, rfl, h.symm⟩
    | rotate => simp at h; exact .inr (.inl ⟨rfl, h.symm⟩)
    | hostPush ch b => simp at h; exact .inr (.inr (.inl ⟨ch, b, rfl, h.symm⟩))
    | hostRead ch => simp at h; exact .inr (.inr (.inr (.inl ⟨ch, rfl, h.symm⟩)))
    | hardwareReset => simp at h; exact .inr (.inr (.inr (.inr (.inl ⟨rfl, h.symm⟩))))
    | operation tx =>
      have hh : (s.withPending rest).halted = s.halted := rfl
      rw [hh] at h
      cases hb : s.halted with
      | true => simp [hb] at h; exact .inr (.inr (.inr (.inr (.inr (.inl ⟨tx, rfl, rfl, h.symm⟩)))))
      | false =>
        have hw : (present tx (s.withPending rest)).port.word = tx.word := rfl
        simp only [hb, Bool.false_eq_true, if_false, hw] at h
        cases hd : decode tx.word with
        | error e =>
          rw [hd] at h
          exact .inr (.inr (.inr (.inr (.inr (.inr (.inl ⟨tx, e, rfl, rfl, hd, h⟩))))))
        | ok i =>
          rw [hd] at h
          exact .inr (.inr (.inr (.inr (.inr (.inr (.inr ⟨tx, i, rfl, rfl, hd, h⟩))))))

end Sys2Proof.Machine
end

