-- ==== Sys2Proof/Laws/Exec.lean ====
section
/-! SUPPORT. Everything an operation can do, once: it records a fault and nothing else, or it passed its checks and leaves
the state `executed`, written as one record. Proofs over all operations cite `exec_cases` and unfold no meaning. -/

namespace Sys2Proof.Machine

/-- The checks an operation has passed when it does not fault (`60_exceptions.md` R254). -/
def Passes (i : Instr) (s : State) : Prop :=
  match i with
  | .updateAll => TimeKept s
  | .initialise => TimeKept s
  | .tick => TimeKept s
  | .isActive sensor => TimeKept s ∧ sensorOperand sensor ≠ none
  | .unlock => s.vec.motorEnable = true
  | .driveProbe target _ =>
    s.vec.motorEnable = true ∧
      ∃ m, moveTarget target = some m ∧ (s.vec.state = .emergencyStop → m = .goingUpAfterEmergency)
  | .stopProbe target => ∃ m, stopTarget target = some m ∧ (s.vec.state = .emergencyStop → m = .emergencyStop)
  | .setSpeed => True
  | .lock => True
  | .setDirection _ => True
  | .enable => True
  | .isSensorUp => True
  | .isSensorExtremeUp => True
  | .isSensorDown => True
  | .isSensorSafety => True
  | .isDebugPressed => True
  | .isInStopState => True
  | .ctlRead => True
  | .ctlWrite _ => True
  | .dbgRead => True
  | .dbgDump => True

/-- The sensor records after one sample of `levels` at `now`. -/
def sampledRecords (cfg : Config) (levels : PerInput Bool) (now : Nat) (sr : PerInput (Option Nat)) :
    PerInput (Option Nat) :=
  .ofFn fun i => updateOne (cfg.activeLevel.get i) (levels.get i) now (sr.get i)

/-- The state an operation leaves when it does not fault, one record per operation. -/
def executed (i : Instr) (s : State) : State :=
  match i with
  | .updateAll =>
    { s with
      sr := sampledRecords s.cfg s.raw s.port.now s.sr, events := s.events ++ [.sample s.port.now s.raw],
      lastNow := some s.port.now, res := resNone }
  | .isActive sensor =>
    { s with
      lastNow := some s.port.now,
      res := match sensorOperand sensor with
        | some i => resBool (isActiveAt s.cfg s.sr i s.port.now)
        | none => resNone }
  | .initialise =>
    { s with
      sr := sampledRecords s.cfg s.port.wait.levels (initialiseEnd s) (sampledRecords s.cfg s.raw s.port.now s.sr),
      events := s.events ++ [.sample s.port.now s.raw, .sample (initialiseEnd s) s.port.wait.levels],
      raw := s.port.wait.levels, lastNow := some (initialiseEnd s), res := resNone }
  | .tick =>
    { s with
      sr := sampledRecords s.cfg s.raw s.port.now s.sr,
      vec := { s.vec with
        flags := .ofFn fun i => isActiveAt s.cfg (sampledRecords s.cfg s.raw s.port.now s.sr) i s.port.now },
      events := s.events ++ [.sample s.port.now s.raw], lastNow := some s.port.now, res := resNone }
  | .setSpeed =>
    { s with
      vec := { s.vec with pwmFrequency := s.port.freq },
      out := { s.out with freq := if s.port.freq = s.vec.pwmFrequency then s.out.freq else some s.port.freq },
      events := s.events ++ if s.port.freq = s.vec.pwmFrequency then [] else [.setPwmFrequency s.port.freq],
      res := resNone }
  | .lock =>
    { s with
      vec := { s.vec with
        motorDuty := false, motorLock := if s.cfg.lockReengages then false else s.vec.motorLock },
      out := { s.out with duty := some .zero, lock := if s.cfg.lockReengages then some false else s.out.lock },
      events := s.events ++ [.setPwmDuty .zero] ++ if s.cfg.lockReengages then [.writeDigital .lock false] else [],
      res := resNone }
  | .unlock =>
    { s with
      vec := { s.vec with motorDuty := true, motorLock := true },
      out := { s.out with duty := some .half, lock := some true },
      events := s.events ++ [.setPwmDuty .half, .writeDigital .lock true], res := resNone }
  | .setDirection dir =>
    { s with
      vec := { s.vec with motorDir := dir }, out := { s.out with dir := some (dirLevel dir) },
      events := s.events ++ [.writeDigital .dir (dirLevel dir)], res := resNone }
  | .enable =>
    { s with
      vec := { s.vec with motorEnable := true }, out := { s.out with en := some true },
      events := s.events ++ [.writeDigital .en true], res := resNone }
  | .driveProbe target dir =>
    { s with
      vec := { s.vec with
        state := (moveTarget target).getD .init, pwmFrequency := s.port.freq, motorDir := dir, motorDuty := true,
        motorLock := true },
      out := { s.out with
        freq := if s.port.freq = s.vec.pwmFrequency then s.out.freq else some s.port.freq,
        dir := some (dirLevel dir), duty := some .half, lock := some true },
      events := (s.events ++ if s.port.freq = s.vec.pwmFrequency then [] else [.setPwmFrequency s.port.freq]) ++
        [.writeDigital .dir (dirLevel dir), .setPwmDuty .half, .writeDigital .lock true],
      res := resNone }
  | .stopProbe target =>
    { s with
      vec := { s.vec with
        state := (stopTarget target).getD .init, count := 0, motorDuty := false,
        motorLock := if s.cfg.lockReengages then false else s.vec.motorLock },
      out := { s.out with duty := some .zero, lock := if s.cfg.lockReengages then some false else s.out.lock },
      events := s.events ++ [.setPwmDuty .zero] ++ if s.cfg.lockReengages then [.writeDigital .lock false] else [],
      res := resNone }
  | .isSensorUp => { s with res := resBool (s.vec.flags.get .sensorUp || s.vec.flags.get .sensorExtremeUp) }
  | .isSensorExtremeUp => { s with res := resBool (s.vec.flags.get .sensorExtremeUp) }
  | .isSensorDown => { s with res := resBool (s.vec.flags.get .sensorDown) }
  | .isSensorSafety => { s with res := resBool (s.vec.flags.get .sensorSafety) }
  | .isDebugPressed => { s with res := resBool (s.vec.flags.get .debugButton) }
  | .isInStopState => { s with res := resBool (isStopped s.vec.state) }
  | .ctlRead =>
    { s with
      rxq := { s.rxq with ctl := s.rxq.ctl.tail },
      events := s.events ++ (s.rxq.ctl.head?.map (Event.rxTake .ctl)).toList, res := resRead s.rxq.ctl.head? }
  | .ctlWrite byte =>
    { s with
      txs := { s.txs with ctl := s.txs.ctl ++ [byte] }, events := s.events ++ [.tx .ctl byte], res := resNone }
  | .dbgRead =>
    { s with
      rxq := { s.rxq with dbg := s.rxq.dbg.tail },
      events := s.events ++ (s.rxq.dbg.head?.map (Event.rxTake .dbg)).toList, res := resRead s.rxq.dbg.head? }
  | .dbgDump =>
    { s with
      txs := { s.txs with dbg := s.txs.dbg ++ serialize s.cfg.terminator s.vec },
      events := s.events ++ (serialize s.cfg.terminator s.vec).map (.tx .dbg), res := resNone }

/-- An operation answers a state with a fault recorded, or it passed its checks and answers `executed`. -/
theorem exec_cases (i : Instr) (s t : State) (h : exec i s = .next t) :
    (∃ c : FaultCode, t = { s with fault := c.code }) ∨ (Passes i s ∧ t = executed i s) := by
  cases i <;> simp only [exec, execUpdateAll, execIsActive, execInitialise, execTick, execSetSpeed, execLock,
    execUnlock, execSetDirection, execEnable, execDriveProbe, execStopProbe, execIsSensorUp, execIsSensorExtremeUp,
    execIsSensorDown, execIsSensorSafety, execIsDebugPressed, execIsInStopState, execCtlRead, execCtlWrite,
    execDbgRead, execDbgDump] at h
  all_goals (repeat' split at h)
  all_goals (first | (rw [raise_eq_next] at h; exact .inl ⟨_, h.symm⟩) | rw [finish_eq_next] at h)
  all_goals (right; subst h)
  case updateAll.isTrue hk => exact ⟨(timeOk_iff _ _).1 hk, rfl⟩
  case tick.isTrue hk => exact ⟨(timeOk_iff _ _).1 hk, rfl⟩
  case initialise.isTrue hk =>
    exact ⟨(timeOk_iff _ _).1 hk, by simp [sampleAndUpdate_eq, State.withRaw, consumeTime_eq, executed, sampledRecords]⟩
  case h_2.isTrue hs hk =>
    exact ⟨⟨(timeOk_iff _ _).1 hk, by simp [hs]⟩, by simp [executed, hs, consumeTime_eq]⟩
  case unlock.isTrue hk => exact ⟨hk, by simp [executed, unlockBody_eq]⟩
  case h_2.isTrue.isFalse hm he hb =>
    exact ⟨⟨he, _, hm, by simpa [bypassesEStop] using hb⟩,
      by simp [executed, unlockBody_eq, setDirectionBody_eq, setSpeedBody_eq, enterState_eq, hm]⟩
  case h_2.isFalse hm hb =>
    refine ⟨⟨_, hm, by simpa [bypassesEStop] using hb⟩, ?_⟩
    cases hr : s.cfg.lockReengages <;> simp [executed, lockBody_eq, enterState_eq, clearCount_eq, hm, hr]
  case setSpeed => exact ⟨trivial, by simp [executed, setSpeedBody_eq]⟩
  case lock => exact ⟨trivial, by cases hr : s.cfg.lockReengages <;> simp [executed, lockBody_eq, hr]⟩
  case ctlRead =>
    refine ⟨trivial, ?_⟩
    rcases rxPop_cases s .ctl with ⟨hq, hh, h⟩ | ⟨b, rest, hq, hh, h⟩ <;> rw [h, hh] <;>
      change s.rxq.ctl = _ at hq <;> simp [executed, hq]
    · exact PerChannel.ext hq rfl
    · rfl
  case dbgRead =>
    refine ⟨trivial, ?_⟩
    rcases rxPop_cases s .dbg with ⟨hq, hh, h⟩ | ⟨b, rest, hq, hh, h⟩ <;> rw [h, hh] <;>
      change s.rxq.dbg = _ at hq <;> simp [executed, hq]
    · exact PerChannel.ext rfl hq
    · rfl
  all_goals exact ⟨trivial, rfl⟩

/-- An operation that has passed its checks answers `executed`. -/
theorem exec_of_passes (i : Instr) (s : State) (hp : Passes i s) : exec i s = .next (executed i s) := by
  cases i
  case updateAll => simp only [exec, execUpdateAll, (timeOk_iff _ _).2 hp, if_true]; rfl
  case tick => simp only [exec, execTick, (timeOk_iff _ _).2 hp, if_true]; rfl
  case initialise =>
    simp only [exec, execInitialise, (timeOk_iff _ _).2 hp, if_true, finish]
    simp [sampleAndUpdate_eq, State.withRaw, State.withRes, consumeTime_eq, executed, sampledRecords]
  case isActive sensor =>
    obtain ⟨hk, hs⟩ := hp
    obtain ⟨i, hi⟩ := Option.ne_none_iff_exists'.1 hs
    simp only [exec, execIsActive, hi, (timeOk_iff _ _).2 hk, if_true, finish]
    simp [executed, hi, consumeTime_eq, State.withRes]
  case unlock =>
    change s.vec.motorEnable = true at hp
    simp [exec, execUnlock, hp, finish, unlockBody_eq, executed, State.withRes]
  case driveProbe target dir =>
    obtain ⟨he, m, hm, hb⟩ := hp
    have hb : bypassesEStop s .goingUpAfterEmergency m = false := by simpa [bypassesEStop] using hb
    simp [exec, execDriveProbe, hm, he, hb, finish, executed, unlockBody_eq, setDirectionBody_eq, setSpeedBody_eq,
      enterState_eq, State.withRes]
  case stopProbe target =>
    obtain ⟨m, hm, hb⟩ := hp
    have hb : bypassesEStop s .emergencyStop m = false := by simpa [bypassesEStop] using hb
    cases hr : s.cfg.lockReengages <;>
      simp [exec, execStopProbe, hm, hb, finish, executed, lockBody_eq, clearCount_eq, enterState_eq, State.withRes, hr]
  case setSpeed => simp [exec, execSetSpeed, finish, setSpeedBody_eq, executed, State.withRes]
  case lock =>
    cases hr : s.cfg.lockReengages <;> simp [exec, execLock, finish, lockBody_eq, executed, State.withRes, hr]
  case ctlRead =>
    rcases rxPop_cases s .ctl with ⟨hq, hh, h⟩ | ⟨b, rest, hq, hh, h⟩ <;> change s.rxq.ctl = _ at hq <;>
      simp [exec, execCtlRead, finish, State.withRes, h, hh, executed, hq]
    · exact PerChannel.ext hq rfl
    · rfl
  case dbgRead =>
    rcases rxPop_cases s .dbg with ⟨hq, hh, h⟩ | ⟨b, rest, hq, hh, h⟩ <;> change s.rxq.dbg = _ at hq <;>
      simp [exec, execDbgRead, finish, State.withRes, h, hh, executed, hq]
    · exact PerChannel.ext rfl hq
    · rfl
  all_goals rfl

end Sys2Proof.Machine
end

