-- ==== Sys2Proof/Laws/PerInstr.lean ====
section
/-! SUPPORT. The fields of a packed word, and statements about every operation, one lemma per constructor of `Instr`. -/

namespace Sys2Proof

/-- The byte C of a packed word. -/
@[simp] theorem cByte_packWord (c b a op : Byte) : (packWord c b a op).extractLsb' 24 8 = c := by
  unfold packWord
  ext i hi
  simp
  grind

/-- The byte B of a packed word. -/
@[simp] theorem bField_packWord (c b a op : Byte) : bField (packWord c b a op) = b := by
  unfold packWord bField
  ext i hi
  simp
  grind

/-- The byte A of a packed word. -/
@[simp] theorem aField_packWord (c b a op : Byte) : aField (packWord c b a op) = a := by
  unfold packWord aField
  ext i hi
  simp
  grind

/-- The opcode of a packed word. -/
@[simp] theorem opField_packWord (c b a op : Byte) : opField (packWord c b a op) = op := by
  unfold packWord opField
  ext i hi
  simp
  grind

/-- A word is packed from its four fields. -/
theorem packWord_fields (w : OpWord) : packWord (w.extractLsb' 24 8) (bField w) (aField w) (opField w) = w := by
  unfold packWord bField aField opField
  ext i hi
  simp
  grind

/-- The bits of two packed words are met field by field. -/
theorem packWord_and (c b a op c' b' a' op' : Byte) :
    packWord c b a op &&& packWord c' b' a' op' = packWord (c &&& c') (b &&& b') (a &&& a') (op &&& op') := by
  unfold packWord
  ext i hi
  simp
  grind

end Sys2Proof

namespace Sys2Proof.Laws.EncodingShape

/-- The byte C of the operation's word is reserved and zero (`30_encoding.md` R91). -/
def Statement (i : Instr) : Prop := (encode i).extractLsb' 24 8 = 0x00#8

theorem updateAll : Statement .updateAll := cByte_packWord _ _ _ _
theorem isActive (sensor : Byte) : Statement (.isActive sensor) := cByte_packWord _ _ _ _
theorem initialise : Statement .initialise := cByte_packWord _ _ _ _
theorem tick : Statement .tick := cByte_packWord _ _ _ _
theorem setSpeed : Statement .setSpeed := cByte_packWord _ _ _ _
theorem lock : Statement .lock := cByte_packWord _ _ _ _
theorem unlock : Statement .unlock := cByte_packWord _ _ _ _
theorem setDirection (dir : Dir) : Statement (.setDirection dir) := cByte_packWord _ _ _ _
theorem enable : Statement .enable := cByte_packWord _ _ _ _
theorem driveProbe (target : Byte) (dir : Dir) : Statement (.driveProbe target dir) := cByte_packWord _ _ _ _
theorem stopProbe (target : Byte) : Statement (.stopProbe target) := cByte_packWord _ _ _ _
theorem isSensorUp : Statement .isSensorUp := cByte_packWord _ _ _ _
theorem isSensorExtremeUp : Statement .isSensorExtremeUp := cByte_packWord _ _ _ _
theorem isSensorDown : Statement .isSensorDown := cByte_packWord _ _ _ _
theorem isSensorSafety : Statement .isSensorSafety := cByte_packWord _ _ _ _
theorem isDebugPressed : Statement .isDebugPressed := cByte_packWord _ _ _ _
theorem isInStopState : Statement .isInStopState := cByte_packWord _ _ _ _
theorem ctlRead : Statement .ctlRead := cByte_packWord _ _ _ _
theorem ctlWrite (byte : Byte) : Statement (.ctlWrite byte) := cByte_packWord _ _ _ _
theorem dbgRead : Statement .dbgRead := cByte_packWord _ _ _ _
theorem dbgDump : Statement .dbgDump := cByte_packWord _ _ _ _

end Sys2Proof.Laws.EncodingShape
end

