-- ==== Sys2Proof/Tests/Slice0.lean ====
section
/-! SUPPORT. Tests. Operation words are written out from `30_encoding.md` R91–R93, R98, R106; expected results are those of
`95_test_vectors.md`, named in each comment. The last part shows that the hypotheses of each statement can be met. -/

namespace Sys2Proof.Tests

open Sys2Proof Sys2Proof.Machine

/-! ### Small states -/

/-- The default parameters of `95_test_vectors.md`, every input active at `true`. -/
def config : Config :=
  { activeLevel := .all true, jumperOverride := true, countBits := 16, freqBits := 16, dutyHalf := 512,
    lockReengages := false, rxDepth := 4, terminator := .empty }

/-- No raw input active. -/
def quietLevels : PerInput Bool := .all false

/-- Only input `i` active. -/
def only (i : Input) : PerInput Bool := quietLevels.set i true

/-- A transaction with nothing on the buses. -/
def quietPort : Transaction := ⟨0#32, 0, 0, ⟨0, quietLevels⟩⟩

/-- The block after reset, under the default parameters. -/
def fresh : State := .resetWith config quietPort quietLevels []

/-- `s` with `n` on the NOW bus. -/
def atTime (n : Nat) (s : State) : State := s.withPort { s.port with now := n }

/-- `s` with `f` on the FREQ bus. -/
def withFreq (f : Nat) (s : State) : State := s.withPort { s.port with freq := f }

/-- `s` in fixture state `m`, the motor enabled. -/
def enabledIn (m : FsmState) (s : State) : State := s.withVec { s.vec with state := m, motorEnable := true }

/-- `s` with the parameters changed. -/
def withConfig (c : Config) (s : State) : State := { s with cfg := c }

/-- `s` with `a` scheduled next. -/
def next (a : Stimulus) (s : State) : State := s.withPending [a]

/-- The transaction that carries word `w`. -/
def carrying (w : OpWord) : Transaction := { quietPort with word := w }

/-- The state an outcome answers; the fresh state if it answers none. -/
def got (o : Host.Outcome State Fault Refusal) : State :=
  match o with
  | .next s => s
  | .fault _ => fresh
  | .refused _ => fresh

/-- The state an outcome answers, if it answers one. -/
def answered (o : Host.Outcome State Fault Refusal) : Option State :=
  match o with
  | .next s => some s
  | .fault _ => none
  | .refused _ => none

/-! ### Ill-formed operands (`30_encoding.md` R102) -/

theorem test_illformed_sensor_index : Instr.wellFormed (.isActive 6#8) = false ∧ Instr.wellFormed (.isActive 255#8) = false := by
  decide

theorem test_illformed_move_target :
    (Instr.wellFormed (.driveProbe 0#8 .up) = false ∧ Instr.wellFormed (.driveProbe 3#8 .up) = false) ∧
    (Instr.wellFormed (.driveProbe 5#8 .down) = false ∧ Instr.wellFormed (.driveProbe 7#8 .down) = false) := by decide

theorem test_illformed_stop_target :
    (Instr.wellFormed (.stopProbe 2#8) = false ∧ Instr.wellFormed (.stopProbe 6#8) = false) ∧
    Instr.wellFormed (.stopProbe 0#8) = false := by decide

theorem test_wellformed_operands :
    (Instr.wellFormed (.isActive 5#8) = true ∧ Instr.wellFormed (.driveProbe 6#8 .up) = true) ∧
    (Instr.wellFormed (.stopProbe 5#8) = true ∧ Instr.wellFormed (.ctlWrite 255#8) = true) := by decide

/-! ### Decoding: every constructor, its word written out from the spec, bits 31 down to 0 (C, B, A, OP) -/

theorem test_decode_debouncer :
    decode 0b00000000_00000000_00000000_00010000#32 = .ok .updateAll ∧
    decode 0b00000000_00000000_00000100_00010001#32 = .ok (.isActive 4#8) ∧
    decode 0b00000000_00000000_00000000_00010010#32 = .ok .initialise ∧
    decode 0b00000000_00000000_00000000_00010011#32 = .ok .tick := by decide

theorem test_decode_motor :
    decode 0b00000000_00000000_00000000_00100000#32 = .ok .setSpeed ∧
    decode 0b00000000_00000000_00000000_00100001#32 = .ok .lock ∧
    decode 0b00000000_00000000_00000000_00100010#32 = .ok .unlock ∧
    decode 0b00000000_00000000_00000001_00100011#32 = .ok (.setDirection .down) ∧
    decode 0b00000000_00000000_00000000_00100011#32 = .ok (.setDirection .up) ∧
    decode 0b00000000_00000000_00000000_00100100#32 = .ok .enable := by decide

theorem test_decode_fsm_moves :
    decode 0b00000000_00000001_00000001_00110000#32 = .ok (.driveProbe 1#8 .down) ∧
    decode 0b00000000_00000000_00000110_00110000#32 = .ok (.driveProbe 6#8 .up) ∧
    decode 0b00000000_00000000_00000101_00110001#32 = .ok (.stopProbe 5#8) := by decide

theorem test_decode_fsm_accessors :
    decode 0b00000000_00000000_00000000_00110010#32 = .ok .isSensorUp ∧
    decode 0b00000000_00000000_00000000_00110011#32 = .ok .isSensorExtremeUp ∧
    decode 0b00000000_00000000_00000000_00110100#32 = .ok .isSensorDown ∧
    decode 0b00000000_00000000_00000000_00110101#32 = .ok .isSensorSafety ∧
    decode 0b00000000_00000000_00000000_00110110#32 = .ok .isDebugPressed ∧
    decode 0b00000000_00000000_00000000_00110111#32 = .ok .isInStopState := by decide

theorem test_decode_channels :
    decode 0b00000000_00000000_00000000_01000000#32 = .ok .ctlRead ∧
    decode 0b00000000_00000000_01000001_01000001#32 = .ok (.ctlWrite 0x41#8) ∧
    decode 0b00000000_00000000_00000000_01000010#32 = .ok .dbgRead ∧
    decode 0b00000000_00000000_00000000_01000011#32 = .ok .dbgDump := by decide

/-- L2-D11, M8, S14, C7, R100: a must-be-zero bit of each field. -/
theorem test_decode_reserved_bits :
    decode 0x01000011#32 = .error .reservedBitsSet ∧ decode 0x00000223#32 = .error .reservedBitsSet ∧
    decode 0x00020130#32 = .error .reservedBitsSet ∧ decode 0x01004141#32 = .error .reservedBitsSet := by decide

/-- L2-X1. -/
theorem test_decode_illegal_opcodes :
    decode 0x00000000#32 = .error .illegalOpcode ∧
    decode 0x0000000F#32 = .error .illegalOpcode ∧
    decode 0x00000014#32 = .error .illegalOpcode ∧
    decode 0x00000025#32 = .error .illegalOpcode ∧
    decode 0x00000038#32 = .error .illegalOpcode ∧
    decode 0x00000044#32 = .error .illegalOpcode ∧
    decode 0x000000FF#32 = .error .illegalOpcode := by
  decide

/-- R102: an operand outside the legal set still decodes. -/
theorem test_decode_illegal_operand : decode 0x00000911#32 = .ok (.isActive 9#8) := by decide

theorem test_table_word_decodes :
    decodeTableWord 32 0x00010130 = some (.driveProbe 1#8 .down) ∧ decodeTableWord 32 0x000000FF = none := by decide

/-- The word where the step takes its next operation is the one that runs, from reset. -/
theorem test_fetch_word_runs :
    (answered (step (fresh.withFetchWord 32 0x00000024))).map (·.out.en) = some (some true) := by decide

theorem test_fetch_word_from_reset :
    (answered (step (State.reset.withFetchWord 32 0x00000024))).map (·.vec.motorEnable) = some true := by decide

/-! ### Sensor Debouncer -/

/-- L2-D5: the second sample keeps the first time. -/
theorem test_update_all_keeps_start :
    let s := { fresh with raw := only .sensorDown, sr := (PerInput.all none).set .sensorDown (some 10), lastNow := some 10 }
    (answered (exec .updateAll (atTime 50 s))).map (fun t => (t.sr.sensorDown, t.sr.sensorUp, t.lastNow)) =
      some (some 10, none, some 50) := by decide

/-- L2-D8: INITIALIZE consumed 650, so 640 faults. -/
theorem test_update_all_time_hazard :
    (answered (exec .updateAll (atTime 640 { fresh with lastNow := some 650 }))).map (fun t => (t.fault, t.events)) =
      some (0x05#8, []) := by decide

/-- L2-D1, the down and safety rows: at, and one after, the threshold. -/
theorem test_is_active_thresholds :
    let s := { fresh with sr := .all (some 1000), lastNow := some 1000 }
    (answered (exec (.isActive 4#8) (atTime 1200 s))).map (·.res) = some 0x0000#16 ∧
    (answered (exec (.isActive 4#8) (atTime 1201 s))).map (·.res) = some 0x0001#16 ∧
    (answered (exec (.isActive 5#8) (atTime 1100 s))).map (·.res) = some 0x0000#16 ∧
    (answered (exec (.isActive 5#8) (atTime 1101 s))).map (·.res) = some 0x0001#16 := by decide

/-- L2-D2 and L2-D11: the override with and without; the index before the time. -/
theorem test_is_active_override_and_index :
    (answered (exec (.isActive 0#8) fresh)).map (·.res) = some 0x0001#16 ∧
    (answered (exec (.isActive 0#8) (withConfig { config with jumperOverride := false } fresh))).map (·.res) =
      some 0x0000#16 ∧
    (answered (exec (.isActive 9#8) (atTime 1 { fresh with lastNow := some 5 }))).map (·.fault) = some 0x03#8 := by decide

/-- L2-D6: stable inputs. -/
theorem test_initialise_stable :
    let s := { fresh with raw := .all true, port := { quietPort with wait := ⟨0, .all true⟩ } }
    (answered (exec .initialise s)).map (fun t => (t.sr, t.lastNow, t.events)) =
      some (.all (some 0), some 600, [.sample 0 (.all true), .sample 600 (.all true)]) := by decide

/-- L2-D7: late activation, `t2 = 700`. -/
theorem test_initialise_late :
    let s := { fresh with port := { quietPort with wait := ⟨100, .all true⟩ } }
    (answered (exec .initialise s)).map (fun t => (t.sr, t.vec.flags, t.res)) =
      some (.all (some 700), .all false, 0x0000#16) := by decide

/-- L1-1: 250 ms after the down sensor closed; the jumper is set by its override. -/
theorem test_tick_sets_flag :
    let s := { fresh with raw := only .sensorDown, sr := (PerInput.all none).set .sensorDown (some 0), lastNow := some 0 }
    (answered (exec .tick (atTime 250 s))).map (·.vec.flags) = some ⟨true, false, false, false, true, false⟩ := by decide

/-- L2-D10: an earlier NOW faults, leaves `RES` and takes no sample; an equal NOW is legal. -/
theorem test_tick_time :
    (answered (exec .tick (atTime 50 { fresh with lastNow := some 100 }))).map (fun t => (t.fault, t.lastNow, t.events)) =
      some (0x05#8, some 100, []) ∧
    (answered (exec .tick (atTime 100 { fresh with lastNow := some 100 }))).map (·.fault) = some 0x00#8 := by decide

/-! ### Motor Controller -/

/-- L2-M1: frequency 0 after reset is never programmed. -/
theorem test_set_speed_zero :
    (answered (exec .setSpeed fresh)).map (fun t => (t.vec.pwmFrequency, t.out.freq, t.events)) = some (0, none, []) := by
  decide

/-- L2-M2: the first of the two. -/
theorem test_set_speed_new :
    (answered (exec .setSpeed (withFreq 1000 fresh))).map (fun t => (t.vec.pwmFrequency, t.events)) =
      some (1000, [.setPwmFrequency 1000]) := by decide

/-- L2-M4a. -/
theorem test_lock_keeps_release :
    (answered (exec .lock fresh)).map (fun t => (t.out, t.events)) =
      some (⟨none, none, none, some .zero, none⟩, [.setPwmDuty .zero]) := by decide

/-- L2-M4b. -/
theorem test_lock_reengages :
    (answered (exec .lock (withConfig { config with lockReengages := true } fresh))).map (fun t => (t.out, t.events)) =
      some (⟨none, none, some false, some .zero, none⟩, [.setPwmDuty .zero, .writeDigital .lock false]) := by decide

/-- L2-M5. -/
theorem test_unlock_not_enabled :
    (answered (exec .unlock fresh)).map (fun t => (t.fault, t.vec.motorDuty, t.events)) = some (0x06#8, false, []) := by
  decide

/-- L2-M6, its UNLOCK. -/
theorem test_unlock_enabled :
    (answered (exec .unlock (enabledIn .init fresh))).map (fun t => (t.out.duty, t.out.lock, t.events)) =
      some (some .half, some true, [.setPwmDuty .half, .writeDigital .lock true]) := by decide

/-- L2-M7, its second write: no compare and skip. -/
theorem test_set_direction_again :
    let s := { fresh with vec := { fresh.vec with motorDir := .down }, events := [.writeDigital .dir true] }
    (answered (exec (.setDirection .down) s)).map (fun t => (t.vec.motorDir, t.out.dir, t.events)) =
      some (.down, some true, [.writeDigital .dir true, .writeDigital .dir true]) := by decide

/-- L2-M9, its first write. -/
theorem test_enable :
    (answered (exec .enable fresh)).map (fun t => (t.vec.motorEnable, t.out.en, t.events)) =
      some (true, some true, [.writeDigital .en true]) := by decide

/-! ### Fixture State Machine -/

/-- L2-S, the event order of DRIVE_PROBE with a new frequency. -/
theorem test_drive_event_order :
    (answered (exec (.driveProbe 1#8 .down) (withFreq 1000 (enabledIn .init fresh)))).map (fun t => (t.vec.state, t.events)) =
      some (.goingDown,
        [.setPwmFrequency 1000, .writeDigital .dir true, .setPwmDuty .half, .writeDigital .lock true]) := by decide

/-- L2-S2, S5, S10, S11: the emergency rule and the order of the checks. -/
theorem test_drive_checks :
    (answered (exec (.driveProbe 1#8 .down) (enabledIn .emergencyStop fresh))).map (·.fault) = some 0x07#8 ∧
    (answered (exec (.driveProbe 6#8 .up) (enabledIn .emergencyStop fresh))).map (·.vec.state) =
      some .goingUpAfterEmergency ∧
    (answered (exec (.driveProbe 0#8 .up) fresh)).map (·.fault) = some 0x04#8 ∧
    (answered (exec (.driveProbe 1#8 .down) { fresh with vec := { fresh.vec with state := .emergencyStop } })).map
      (·.fault) = some 0x06#8 := by decide

/-- L1-2: a normal stop after 5 rotation events. -/
theorem test_stop_normal :
    let s := { fresh with vec := { fresh.vec with state := .goingDown, count := 5, motorDuty := true } }
    (answered (exec (.stopProbe 3#8) s)).map (fun t => (t.vec.state, t.vec.count, t.vec.motorDuty, t.out.duty)) =
      some (.stopDown, 0, false, some .zero) := by decide

/-- L2-S3, S4, S9, S12. -/
theorem test_stop_checks :
    (answered (exec (.stopProbe 4#8) (enabledIn .emergencyStop fresh))).map (·.fault) = some 0x07#8 ∧
    (answered (exec (.stopProbe 5#8) (enabledIn .emergencyStop fresh))).map (·.fault) = some 0x00#8 ∧
    (answered (exec (.stopProbe 7#8) fresh)).map (·.fault) = some 0x04#8 ∧
    (answered (exec (.stopProbe 5#8) fresh)).map (·.vec.state) = some .emergencyStop := by decide

/-- The block with the cached flags `f`. -/
def flagged (f : PerInput Bool) : State := { fresh with vec := { fresh.vec with flags := f } }

/-- L1-8. -/
theorem test_is_sensor_up :
    (answered (exec .isSensorUp (flagged (.all false)))).map (·.res) = some 0x0000#16 ∧
    (answered (exec .isSensorUp (flagged (only .sensorExtremeUp)))).map (·.res) = some 0x0001#16 ∧
    (answered (exec .isSensorUp (flagged (only .sensorUp)))).map (·.res) = some 0x0001#16 := by decide

/-- L2-S accessors, `F = 011000`. -/
theorem test_accessors :
    let s := flagged ⟨false, true, true, false, false, false⟩
    (answered (exec .isDebugPressed s)).map (·.res) = some 0x0001#16 ∧
    (answered (exec .isSensorExtremeUp s)).map (·.res) = some 0x0001#16 ∧
    (answered (exec .isSensorDown s)).map (·.res) = some 0x0000#16 ∧
    (answered (exec .isSensorSafety s)).map (·.res) = some 0x0000#16 := by decide

/-- L1-1 and L1-3: the down and the safety accessor. -/
theorem test_accessors_down_safety :
    (answered (exec .isSensorDown (flagged (only .sensorDown)))).map (·.res) = some 0x0001#16 ∧
    (answered (exec .isSensorSafety (flagged (only .sensorSafety)))).map (·.res) = some 0x0001#16 := by decide

/-- L2-S and L1-3: Init is no stop state, EmergencyStop is one. -/
theorem test_is_in_stop_state :
    (answered (exec .isInStopState fresh)).map (·.res) = some 0x0000#16 ∧
    (answered (exec .isInStopState (enabledIn .emergencyStop fresh))).map (·.res) = some 0x0001#16 := by decide

/-! ### Command Channels -/

/-- L2-C2 and L2-C1. -/
theorem test_ctl_read :
    (answered (exec .ctlRead { fresh with rxq := ⟨[0xFF#8], []⟩ })).map (fun t => (t.res, t.rxq.ctl, t.events)) =
      some (0x00FF#16, [], [.rxTake .ctl 0xFF#8]) ∧
    (answered (exec .ctlRead fresh)).map (fun t => (t.res, t.events)) = some (0xFFFF#16, []) := by decide

/-- L2-C4, its second write. -/
theorem test_ctl_write :
    (answered (exec (.ctlWrite 0xFF#8) { fresh with txs := ⟨[0x00#8], []⟩ })).map (fun t => (t.txs, t.events)) =
      some (⟨[0x00#8, 0xFF#8], []⟩, [.tx .ctl 0xFF#8]) := by decide

/-- L2-C5: the channels are independent. -/
theorem test_dbg_read :
    (answered (exec .dbgRead { fresh with rxq := ⟨[0x05#8], []⟩ })).map (fun t => (t.res, t.rxq.ctl)) =
      some (0xFFFF#16, [0x05#8]) := by decide

/-- The ASCII bytes of `false` and of `true`. -/
def falseText : List Byte := [0x66#8, 0x61#8, 0x6C#8, 0x73#8, 0x65#8]

/-- The ASCII bytes of `true`. -/
def trueText : List Byte := [0x74#8, 0x72#8, 0x75#8, 0x65#8]

/-- L1-4, L2-C8: the literal dump of the reset vector, `<i`, ten times `false`, `.0.0>`, 57 bytes. -/
theorem test_dump_reset :
    (answered (exec .dbgDump fresh)).map (·.txs.dbg) =
      some ([0x3C#8, 0x69#8] ++ (List.replicate 10 falseText).flatten ++ [0x2E#8, 0x30#8, 0x2E#8, 0x30#8, 0x3E#8]) ∧
    (answered (exec .dbgDump fresh)).map (·.txs.dbg.length) = some 57 := by decide

/-- L2-C9: `<b`, ten times `true`, `.65535.12345>`. -/
theorem test_dump_full :
    serialize .empty ⟨.goingUpAfterEmergency, 12345, 65535, .all true, .down, true, true, true⟩ =
      [0x3C#8, 0x62#8] ++ (List.replicate 10 trueText).flatten ++
        [0x2E#8, 0x36#8, 0x35#8, 0x35#8, 0x33#8, 0x35#8] ++ [0x2E#8, 0x31#8, 0x32#8, 0x33#8, 0x34#8, 0x35#8] ++ [0x3E#8] := by
  decide

/-! ### Faults, rotation, pushes, reset -/

/-- L2 count wrap: the fourth event from 0 with two bits. -/
theorem test_count_wraps :
    let s := withConfig { config with countBits := 2 } { fresh with vec := { fresh.vec with count := 3 } }
    (answered (step (next .rotate s))).map (·.vec.count) = some 0 := by decide

/-- L2-C6: the third push into a queue of two. -/
theorem test_push_overflows :
    let s := withConfig { config with rxDepth := 2 } { fresh with rxq := ⟨[0x01#8, 0x02#8], []⟩ }
    (answered (step (next (.hostPush .ctl 0x03#8) s))).map (fun t => (t.fault, t.rxq.ctl)) =
      some (0x08#8, [0x01#8, 0x02#8]) := by decide

/-- L2-X2, L2-X3: a halted block executes nothing and keeps its code; a reset clears it. -/
theorem test_halted :
    let s := { fresh with fault := 0x07#8 }
    (answered (step (next (.operation (carrying 0x00000024#32)) s))).map (fun t => (t.fault, t.vec.motorEnable, t.out.en)) =
      some (0x07#8, false, none) ∧
    (answered (step (next (.hostPush .ctl 0x01#8) s))).map (·.rxq.ctl) = some [] ∧
    (answered (step (next .rotate s))).map (·.vec.count) = some 0 ∧
    (answered (step (next .hardwareReset s))).map (·.fault) = some 0x00#8 := by decide

/-! ### The hypotheses of the statements can be met, at the boundaries of their clauses -/

/-- The fresh block with word `w` scheduled. -/
def issuing (w : OpWord) : State := next (.operation (carrying w)) fresh

/-- A halted block. -/
def halted : State := { fresh with fault := 0x08#8 }

/-- The block after ENABLE, SET_SPEED 1000 and UNLOCK. -/
def running : State :=
  got (exec .unlock (got (exec .setSpeed (withFreq 1000 (got (exec .enable fresh))))))

/-- `fresh` without the jumper override. -/
def noOverride : State := withConfig { config with jumperOverride := false } fresh

/-- Time 650 consumed. -/
def consumed (s : State) : State := { s with lastNow := some 650 }

theorem witness_EncodeOfDecode : decode 0x00010130#32 = .ok (.driveProbe 1#8 .down) := by decide

theorem witness_RowSelectsItsWords :
    ∃ row ∈ opcodeMap, row.opcode = 0x30#8 ∧ 0x0001FF30#32 &&& row.mask = row.pattern := by decide

/-- The ends of each illegal range. -/
theorem witness_IllegalOpcodeRaises :
    (fresh.fault = 0x00#8 ∧ (issuing 0x00000000#32).pending = [.operation (carrying 0x00000000#32)]) ∧
    [0x00000000#32, 0x0000000F#32, 0x00000014#32, 0x0000001F#32, 0x00000025#32, 0x0000002F#32, 0x00000038#32,
      0x0000003F#32, 0x00000044#32, 0x000000FF#32].all (fun w =>
        decide ((opField w).toNat ≤ 0x0F ∨ 0x14 ≤ (opField w).toNat ∧ (opField w).toNat ≤ 0x1F ∨
          0x25 ≤ (opField w).toNat ∧ (opField w).toNat ≤ 0x2F ∨ 0x38 ≤ (opField w).toNat ∧ (opField w).toNat ≤ 0x3F ∨
          0x44 ≤ (opField w).toNat)) = true := by decide

theorem witness_ReservedBitsRaise :
    (∃ row ∈ opcodeMap, opField 0x00000223#32 = row.opcode ∧ 0x00000223#32 &&& row.mask ≠ row.pattern) ∧
    (issuing 0x00000223#32).fault = 0x00#8 ∧
    (issuing 0x00000223#32).pending = [.operation (carrying 0x00000223#32)] := by decide

theorem witness_StepRunsDecodedOperation :
    (issuing 0x00000331#32).fault = 0x00#8 ∧
    (issuing 0x00000331#32).pending = [.operation (carrying 0x00000331#32)] ∧
    decode (carrying 0x00000331#32).word = .ok (.stopProbe 3#8) := by decide

theorem witness_FetchedWordRuns : fresh.fault = 0x00#8 := by decide

theorem witness_HaltedBlockExecutesNothing :
    halted.fault ≠ 0x00#8 ∧
    (next (.operation (carrying 0x00000024#32)) halted).pending = [.operation (carrying 0x00000024#32)] ∧
    (next (.hostPush .dbg 0x01#8) halted).pending = [.hostPush .dbg 0x01#8] ∧
    (next .rotate halted).pending = [.rotate] ∧
    (next (.hostRead .ctl) halted).pending = [.hostRead .ctl] ∧
    Stimulus.hostRead .ctl ≠ .hardwareReset := by decide

theorem witness_FaultsArePrecise :
    exec .unlock fresh = .next (got (exec .unlock fresh)) ∧ (got (exec .unlock fresh)).fault ≠ fresh.fault :=
  ⟨rfl, by decide⟩

theorem witness_HardwareResetRestoresResetState : (next .hardwareReset halted).pending = [.hardwareReset] := rfl

theorem witness_RotationIncrementsCount :
    (next .rotate fresh).fault = 0x00#8 ∧ (next .rotate fresh).pending = [.rotate] := by decide

/-- One byte short of the depth, and at it. -/
theorem witness_HostPushQueuesOrOverflows :
    let room := next (.hostPush .ctl 0x03#8) { fresh with rxq := ⟨[0x00#8, 0x01#8, 0x02#8], []⟩ }
    let full := next (.hostPush .dbg 0x04#8) { fresh with rxq := ⟨[], [0x00#8, 0x01#8, 0x02#8, 0x03#8]⟩ }
    room.fault = 0x00#8 ∧ room.pending = [.hostPush .ctl 0x03#8] ∧ (room.rxq.get .ctl).length < room.cfg.rxDepth ∧
    full.fault = 0x00#8 ∧ full.pending = [.hostPush .dbg 0x04#8] ∧ full.cfg.rxDepth ≤ (full.rxq.get .dbg).length := by
  decide

theorem witness_OutsideStepsLeaveTheBlock :
    (next (.setLevel .jumper true) fresh).pending = [.setLevel .jumper true] ∧
    (next (.hostRead .dbg) fresh).pending = [.hostRead .dbg] ∧ fresh.pending = [] := by decide

theorem timeKept_fresh : TimeKept fresh := fun _ h => (nomatch h)

theorem timesConsumed_empty {s : State} (h : s.sr = .all none) : TimesConsumed s := by
  intro i t ht
  rw [h] at ht
  cases i <;> cases ht

/-- An equal NOW. -/
theorem timeKept_equal : TimeKept (atTime 650 (consumed fresh)) := fun _ h => by cases h; decide

/-- A NOW one less. -/
theorem not_timeKept_earlier : ¬ TimeKept (atTime 649 (consumed fresh)) := fun h => absurd (h 650 rfl) (by decide)

theorem witness_UpdateAllOperation :
    TimeKept (atTime 650 (consumed fresh)) ∧ ¬ TimeKept (atTime 649 (consumed fresh)) :=
  ⟨timeKept_equal, not_timeKept_earlier⟩

/-- The first and the last legal index with either time, and the first illegal one. -/
theorem witness_IsActiveOperation :
    ([Input.jumper, .debugButton, .sensorExtremeUp, .sensorUp, .sensorDown, .sensorSafety][(0#8 : Byte).toNat]? =
        some .jumper ∧
      [Input.jumper, .debugButton, .sensorExtremeUp, .sensorUp, .sensorDown, .sensorSafety][(5#8 : Byte).toNat]? =
        some .sensorSafety ∧ 6 ≤ (6#8 : Byte).toNat) ∧
    TimeKept (atTime 650 (consumed fresh)) ∧ ¬ TimeKept (atTime 649 (consumed fresh)) :=
  ⟨by decide, timeKept_equal, not_timeKept_earlier⟩

theorem witness_InitialiseOperation :
    (1250 = (atTime 650 (consumed fresh)).port.now + 600 + (atTime 650 (consumed fresh)).port.wait.extra ∧
      TimeKept (atTime 650 (consumed fresh))) ∧
    1249 = (atTime 649 (consumed fresh)).port.now + 600 + (atTime 649 (consumed fresh)).port.wait.extra ∧
    ¬ TimeKept (atTime 649 (consumed fresh)) :=
  ⟨⟨by decide, timeKept_equal⟩, by decide, not_timeKept_earlier⟩

theorem witness_TickOperation :
    (∀ i, (fun _ => none : Input → Option Nat) i =
      if (atTime 650 (consumed fresh)).raw.get i = (atTime 650 (consumed fresh)).cfg.activeLevel.get i then
        some (((atTime 650 (consumed fresh)).sr.get i).getD 650) else none) ∧
    TimeKept (atTime 650 (consumed fresh)) ∧ ¬ TimeKept (atTime 649 (consumed fresh)) :=
  ⟨fun i => by cases i <;> rfl, timeKept_equal, not_timeKept_earlier⟩

/-- The block after an UPDATE_ALL with the down sensor closed. -/
def sampled : State := got (exec .updateAll { fresh with raw := only .sensorDown })

theorem witness_UpdateAllIsIdempotent :
    let later := { quietPort with now := 50 }
    exec .updateAll { fresh with raw := only .sensorDown } = .next sampled ∧ sampled.fault = fresh.fault ∧
    TimeKept { fresh with raw := only .sensorDown } ∧
    exec .updateAll { sampled with port := later } = .next (got (exec .updateAll { sampled with port := later })) :=
  ⟨rfl, rfl, fun _ h => (nomatch h), rfl⟩

/-- TICKs at 0, 200 and 201 with the down sensor closed; and of the jumper without its override. -/
theorem witness_FlagRisesAfterThreshold :
    let ticks := [(200, only .sensorDown), (201, only .sensorDown)]
    fresh.sr.get .sensorDown = none ∧ (Input.sensorDown = .jumper → fresh.cfg.jumperOverride = false) ∧
    (∀ last, fresh.lastNow = some last → last ≤ 0) ∧ (0 :: ticks.map Prod.fst).Pairwise (· ≤ ·) ∧
    (∀ tick ∈ (0, only .sensorDown) :: ticks, tick.2.get .sensorDown = fresh.cfg.activeLevel.get .sensorDown) :=
  ⟨rfl, fun h => (nomatch h), fun _ h => (nomatch h), by decide, by decide⟩

theorem witness_FlagRisesAfterThreshold_jumper :
    let ticks := [(500, only .jumper), (501, only .jumper)]
    noOverride.sr.get .jumper = none ∧ (Input.jumper = .jumper → noOverride.cfg.jumperOverride = false) ∧
    (∀ last, noOverride.lastNow = some last → last ≤ 0) ∧ (0 :: ticks.map Prod.fst).Pairwise (· ≤ ·) ∧
    (∀ tick ∈ (0, only .jumper) :: ticks, tick.2.get .jumper = noOverride.cfg.activeLevel.get .jumper) :=
  ⟨rfl, fun _ => rfl, fun _ h => (nomatch h), by decide, by decide⟩

/-- Each of the three operations, with the down sensor released. -/
theorem witness_ReleaseSeenAtSample :
    ∀ op ∈ [Instr.updateAll, .tick, .initialise],
      (op = .updateAll ∨ op = .tick ∨ op = .initialise) ∧ TimeKept fresh ∧
      exec op fresh = .next (got (exec op fresh)) ∧
      (got (exec op fresh)).raw.get .sensorDown ≠ fresh.cfg.activeLevel.get .sensorDown ∧
      (Input.sensorDown = .jumper → fresh.cfg.jumperOverride = false) := by
  intro op h
  have : op = .updateAll ∨ op = .tick ∨ op = .initialise := by simpa using h
  refine ⟨this, timeKept_fresh, ?_⟩
  rcases this with rfl | rfl | rfl <;> exact ⟨rfl, by decide, fun h => (nomatch h)⟩

/-- Stable inputs, a late release, a late activation (L2-D6, L2-D7). -/
theorem witness_InitialiseGuarantee :
    let stable := { fresh with raw := .all true, port := { quietPort with wait := ⟨0, .all true⟩ } }
    let released := { fresh with raw := .all true }
    let late := { fresh with port := { quietPort with wait := ⟨100, .all true⟩ } }
    (TimesConsumed stable ∧ TimeKept stable ∧ exec .initialise stable = .next (got (exec .initialise stable)) ∧
      (got (exec .initialise stable)).lastNow = some 600 ∧
      stable.raw.get .sensorDown = stable.cfg.activeLevel.get .sensorDown ∧
      stable.port.wait.levels.get .sensorDown = stable.cfg.activeLevel.get .sensorDown) ∧
    (TimesConsumed released ∧ TimeKept released ∧
      exec .initialise released = .next (got (exec .initialise released)) ∧
      (got (exec .initialise released)).lastNow = some 600 ∧
      released.port.wait.levels.get .sensorDown ≠ released.cfg.activeLevel.get .sensorDown) ∧
    (TimesConsumed late ∧ TimeKept late ∧ exec .initialise late = .next (got (exec .initialise late)) ∧
      (got (exec .initialise late)).lastNow = some 700 ∧
      late.raw.get .sensorDown ≠ late.cfg.activeLevel.get .sensorDown ∧
      late.port.wait.levels.get .sensorDown = late.cfg.activeLevel.get .sensorDown) :=
  ⟨⟨timesConsumed_empty rfl, fun _ h => (nomatch h), rfl, rfl, by decide, by decide⟩,
    ⟨timesConsumed_empty rfl, fun _ h => (nomatch h), rfl, rfl, by decide⟩,
    ⟨timesConsumed_empty rfl, fun _ h => (nomatch h), rfl, rfl, by decide, by decide⟩⟩

theorem witness_ThresholdIsStrict : sampled.sr.get .sensorDown = some 0 := by decide

theorem witness_JumperOverrideAtOutput :
    fresh.cfg.jumperOverride = true ∧ TimeKept fresh ∧ exec .tick fresh = .next (got (exec .tick fresh)) :=
  ⟨rfl, timeKept_fresh, rfl⟩

theorem witness_SetSpeedOperation :
    (withFreq 1 fresh).port.freq ≠ (withFreq 1 fresh).vec.pwmFrequency ∧ fresh.port.freq = fresh.vec.pwmFrequency := by
  decide

theorem witness_SetSpeedTwiceProgramsOnce :
    let t := got (exec .setSpeed (withFreq 1000 fresh))
    exec .setSpeed (withFreq 1000 fresh) = .next t ∧ exec .setSpeed t = .next (got (exec .setSpeed t)) := ⟨rfl, rfl⟩

theorem witness_LockOperation :
    (withConfig { config with lockReengages := true } fresh).cfg.lockReengages = true ∧
    fresh.cfg.lockReengages = false := by decide

theorem witness_UnlockOperation :
    (enabledIn .init fresh).vec.motorEnable = true ∧ fresh.vec.motorEnable = false := by decide

theorem witness_SetDirectionOperation : 2 ≤ (2#8 : Byte).toNat ∧ 2 ≤ (255#8 : Byte).toNat := by decide

theorem witness_EnableNeverRevoked :
    let s := next (.operation (carrying 0x00000021#32)) running
    step s = .next (got (step s)) ∧ s.pending.head? ≠ some .hardwareReset := ⟨rfl, by decide⟩

theorem witness_DutyNumberWritten :
    exec .lock fresh = .next (got (exec .lock fresh)) ∧ running.vec.motorEnable = true ∧
    exec .unlock running = .next (got (exec .unlock running)) := ⟨rfl, by decide, rfl⟩

/-- Each target, each clause. -/
theorem witness_DriveProbeOperation :
    (((1#8 : Byte), FsmState.goingDown) ∈
        [((1#8 : Byte), FsmState.goingDown), (2#8, .goingUp), (6#8, .goingUpAfterEmergency)] ∧
      ((6#8 : Byte), FsmState.goingUpAfterEmergency) ∈
        [((1#8 : Byte), FsmState.goingDown), (2#8, .goingUp), (6#8, .goingUpAfterEmergency)]) ∧
    ((enabledIn .init fresh).vec.motorEnable = true ∧ (enabledIn .init fresh).vec.state ≠ .emergencyStop) ∧
    ((enabledIn .emergencyStop fresh).vec.motorEnable = true ∧
      (enabledIn .emergencyStop fresh).vec.state = .emergencyStop ∧ FsmState.goingUp ≠ .goingUpAfterEmergency) ∧
    fresh.vec.motorEnable = false ∧
    ((0#8 : Byte) ≠ 1#8 ∧ (0#8 : Byte) ≠ 2#8 ∧ (0#8 : Byte) ≠ 6#8) ∧
    ((3#8 : Byte) ≠ 1#8 ∧ (3#8 : Byte) ≠ 2#8 ∧ (3#8 : Byte) ≠ 6#8) ∧
    ((7#8 : Byte) ≠ 1#8 ∧ (7#8 : Byte) ≠ 2#8 ∧ (7#8 : Byte) ≠ 6#8) := by decide

theorem witness_StopProbeOperation :
    (((3#8 : Byte), FsmState.stopDown) ∈
        [((3#8 : Byte), FsmState.stopDown), (4#8, .stopUp), (5#8, .emergencyStop)] ∧
      ((5#8 : Byte), FsmState.emergencyStop) ∈
        [((3#8 : Byte), FsmState.stopDown), (4#8, .stopUp), (5#8, .emergencyStop)]) ∧
    (fresh.vec.state = .emergencyStop → FsmState.stopDown = .emergencyStop) ∧
    ((enabledIn .emergencyStop fresh).vec.state = .emergencyStop ∧ FsmState.stopUp ≠ .emergencyStop) ∧
    ((2#8 : Byte) ≠ 3#8 ∧ (2#8 : Byte) ≠ 4#8 ∧ (2#8 : Byte) ≠ 5#8) ∧
    ((6#8 : Byte) ≠ 3#8 ∧ (6#8 : Byte) ≠ 4#8 ∧ (6#8 : Byte) ≠ 5#8) := by decide

theorem witness_AccessSummaryHolds :
    exec .initialise fresh = .next (got (exec .initialise fresh)) ∧ Part.count ∉ writableParts true .initialise ∧
    exec .lock fresh = .next (got (exec .lock fresh)) ∧ Part.outLock ∉ writableParts fresh.cfg.lockReengages .lock ∧
    Instr.lock ≠ .initialise := ⟨rfl, by decide, rfl, by decide, by decide⟩

theorem witness_TransitionTable :
    (enabledIn .emergencyStop fresh).vec.motorEnable = true ∧ (enabledIn .emergencyStop fresh).fault = 0x00#8 ∧
    moveTarget 6#8 = some .goingUpAfterEmergency ∧ moveTarget 1#8 = some .goingDown ∧
    stopTarget 3#8 = some .stopDown ∧ stopTarget 5#8 = some .emergencyStop := by decide

theorem witness_EmergencyStopLeftOnlyByRecovery :
    let s := next (.operation (carrying 0x00000630#32)) (enabledIn .emergencyStop fresh)
    s.vec.state = .emergencyStop ∧ step s = .next (got (step s)) := ⟨rfl, rfl⟩

theorem witness_InitNotReenterable :
    let s := next (.operation (carrying 0x00000331#32)) (enabledIn .goingDown fresh)
    step s = .next (got (step s)) ∧ s.pending.head? ≠ some .hardwareReset ∧ (got (step s)).vec.state ≠ s.vec.state ∧
    s.vec.state ≠ .init := ⟨rfl, by decide, by decide, by decide⟩

theorem witness_DutyHeldBetweenMotions :
    let stopped := got (exec (.stopProbe 3#8) running)
    (exec .enable stopped = .next (got (exec .enable stopped)) ∧ Instr.enable ≠ .unlock ∧
      stopped.vec.motorDuty = false ∧ stopped.out.duty = some .zero) ∧
    (exec .enable running = .next (got (exec .enable running)) ∧ Instr.enable ≠ .lock ∧
      running.vec.motorDuty = true ∧ running.out.duty = some .half ∧ running.vec.motorLock = true ∧
      running.out.lock = some true) := ⟨⟨rfl, by decide⟩, ⟨rfl, by decide⟩⟩

theorem witness_CtlReadOperation :
    ({ fresh with rxq := ⟨[0xFF#8], []⟩ } : State).rxq.ctl = [0xFF#8] ∧ fresh.rxq.ctl = [] := by decide

theorem witness_DbgReadOperation :
    ({ fresh with rxq := ⟨[], [0x3F#8, 0x00#8]⟩ } : State).rxq.dbg = [0x3F#8, 0x00#8] ∧ fresh.rxq.dbg = [] := by decide

theorem witness_DbgDumpOperation :
    [0x3C#8, 0x69#8] ++ (List.replicate 10 falseText).flatten ++ [0x2E#8, 0x30#8, 0x2E#8, 0x30#8, 0x3E#8] =
      [0x3C#8] ++ [stateCode fresh.vec.state]
        ++ boolText fresh.vec.flags.jumper ++ boolText fresh.vec.flags.debugButton
        ++ boolText fresh.vec.flags.sensorExtremeUp ++ boolText fresh.vec.flags.sensorUp
        ++ boolText fresh.vec.flags.sensorDown ++ boolText fresh.vec.flags.sensorSafety
        ++ boolText (decide (fresh.vec.motorDir = .down)) ++ boolText fresh.vec.motorEnable
        ++ boolText fresh.vec.motorLock ++ boolText fresh.vec.motorDuty
        ++ [0x2E#8] ++ decimal fresh.vec.pwmFrequency ++ [0x2E#8] ++ decimal fresh.vec.count ++ [0x3E#8]
        ++ terminatorBytes fresh.cfg.terminator := by decide

theorem witness_DecimalDigits : (1 : Nat) ≠ 0 ∧ 0x31#8 ∈ decimal 1 := by decide

theorem witness_DumpDeterminesVector : serialize .lf fresh.vec = serialize .lf fresh.vec := rfl

/-- As many bytes as the queue holds. -/
theorem witness_ControlQueueIsFifo :
    let bytes := [0x01#8, 0x02#8, 0x03#8, 0x04#8]
    let s := fresh.withPending (bytes.map (.hostPush .ctl) ++
      bytes.map (fun _ => .operation { fresh.port with word := encode .ctlRead }))
    s.fault = 0x00#8 ∧ s.rxq.ctl = [] ∧ bytes.length ≤ s.cfg.rxDepth := by decide

/-- A state with outputs driven and events recorded. -/
theorem witness_CoherentKeptByStep : Coherent running ∧ step running = .next (got (step running)) :=
  ⟨{ admitted := by decide
     fault := by decide
     result := by decide
     widths := ⟨by decide, by decide, by decide, fun f h => by cases h; decide⟩
     times := timesConsumed_empty rfl
     outputs := ⟨.inr ⟨rfl, rfl⟩, rfl, .inl rfl, .inl rfl, .inl rfl⟩
     queues := fun ch => by cases ch <;> decide
     moving := fun h => (nomatch h) }, rfl⟩

theorem witness_HistoryExplainsState : Explained running ∧ step running = .next (got (step running)) :=
  ⟨⟨rfl, fun ch => by cases ch <;> rfl, fun i => by cases i <;> rfl⟩, rfl⟩

theorem witness_HistoryGrowsConfigurationStays :
    let s := next (.operation (carrying 0x00000013#32)) fresh
    step s = .next (got (step s)) ∧ s.pending.head? ≠ some .hardwareReset := ⟨rfl, by decide⟩

theorem witness_IgnoredBusesAreNotRead :
    exec .lock fresh = .next (got (exec .lock fresh)) ∧ usesNow .lock = false ∧ usesFreq .lock = false := ⟨rfl, rfl, rfl⟩

end Sys2Proof.Tests
end

section
/-! PROOFS. The family `10_state.md`: the reset values (R62) and the debounce thresholds (R32). -/

namespace Sys2Proof.Machine

/-- A record that holds one value on both channels reads as that value. -/
@[simp] theorem PerChannel.get_mk_self {α : Type} (a : α) (ch : Channel) : (PerChannel.mk a a).get ch = a := by
  cases ch <;> rfl

/-- Settles O12: the records with an entry per input or channel hold one value throughout; every other field is read off
`State.reset`. -/
theorem stateAfterReset : Obligations.StateAfterReset :=
  have sensorsSent : ∀ i, State.reset.sr.get i = none := PerInput.get_all none
  have flagsClear : ∀ i, State.reset.vec.flags.get i = false := PerInput.get_all false
  have queuesEmpty : ∀ ch, State.reset.rxq.get ch = [] := PerChannel.get_mk_self []
  have streamsEmpty : ∀ ch, State.reset.txs.get ch = [] := PerChannel.get_mk_self []
  ⟨sensorsSent, rfl, rfl, rfl, flagsClear, rfl, rfl, rfl, rfl, rfl, rfl, rfl, rfl, queuesEmpty, streamsEmpty, rfl⟩

theorem maxThreshold_eq : maxThreshold = 500 := by decide

theorem warmup_eq : warmup = 600 := by
  rw [warmup, maxThreshold_eq]

/-- Settles O17: the six thresholds are the rows of `threshold`; the largest and the warm-up are computed from them. -/
theorem debounceThresholds : Obligations.DebounceThresholds :=
  ⟨rfl, rfl, rfl, rfl, rfl, rfl, maxThreshold_eq, warmup_eq⟩

end Sys2Proof.Machine
end

section
/-! PROOFS. The family `40_debouncer.md`: the next states of UPDATE_ALL (R120), IS_ACTIVE (R125) and TICK (R135). -/

namespace Sys2Proof

/-- A word whose bytes B and C are zero is its opcode with the byte A above it. -/
theorem packWord_zero_zero (a op : Byte) :
    packWord 0x00#8 0x00#8 a op = op.setWidth 32 ||| (a.setWidth 32 <<< 8) := by
  simp [packWord]

end Sys2Proof

namespace Sys2Proof.Machine

/-! ### The debounce rule in the terms of the statements -/

theorem debounced_eq (sr : PerInput (Option Nat)) (i : Input) (now : Nat) :
    debounced sr i now = (sr.get i).any fun since => decide (now - since > threshold i) := by
  unfold debounced
  cases sr.get i <;> rfl

theorem isActiveAt_eq (cfg : Config) (sr : PerInput (Option Nat)) (i : Input) (now : Nat) :
    isActiveAt cfg sr i now = (decide (i = .jumper) && cfg.jumperOverride ||
      (sr.get i).any fun since => decide (now - since > threshold i)) := by
  rw [isActiveAt, debounced_eq]

theorem isActiveAt_iff (cfg : Config) (sr : PerInput (Option Nat)) (i : Input) (now : Nat) :
    isActiveAt cfg sr i now = true ↔ (i = .jumper ∧ cfg.jumperOverride = true) ∨
      (sr.get i).any (fun since => decide (now - since > threshold i)) = true := by
  rw [isActiveAt_eq, Bool.or_eq_true, Bool.and_eq_true, decide_eq_true_iff]

theorem resBool_isActiveAt (cfg : Config) (sr : PerInput (Option Nat)) (i : Input) (now : Nat) :
    resBool (isActiveAt cfg sr i now) =
      if (i = .jumper ∧ cfg.jumperOverride = true) ∨
          (sr.get i).any (fun since => decide (now - since > threshold i)) = true
        then 0x0001#16 else 0x0000#16 :=
  if_congr (isActiveAt_iff cfg sr i now) rfl rfl

/-- One sample keeps the time of an input still at its active level, starts one at `now`, and clears every other. -/
theorem sampledRecords_eq (cfg : Config) (levels : PerInput Bool) (now : Nat) (sr : PerInput (Option Nat)) :
    sampledRecords cfg levels now sr =
      .ofFn fun i => if levels.get i = cfg.activeLevel.get i then some ((sr.get i).getD now) else none :=
  congrArg PerInput.ofFn (funext fun _ => updateOne_eq _ _ _ _)

/-- A sensor operand names the input at its place in the order of `00_scope.md` R15. -/
theorem sensorOperand_eq_getElem? (sensor : Byte) :
    sensorOperand sensor =
      [Input.jumper, .debugButton, .sensorExtremeUp, .sensorUp, .sensorDown, .sensorSafety][sensor.toNat]? := by
  unfold sensorOperand
  generalize sensor.toNat = n
  match n with
  | 0 | 1 | 2 | 3 | 4 | 5 | _ + 6 => rfl

theorem sensorOperand_eq_none {sensor : Byte} (h : 6 ≤ sensor.toNat) : sensorOperand sensor = none := by
  rw [sensorOperand_eq_getElem?]
  exact List.getElem?_eq_none h

/-! ### The faults of the timed operations -/

section
variable {s : State}

theorem timeOk_of_not_timeKept (h : ¬ TimeKept s) : timeOk s.port.now s = false :=
  Bool.eq_false_iff.2 (mt (timeOk_iff s s.port.now).1 h)

/-- `60_exceptions.md` R254: for the three sampling operations the time is the only check. -/
theorem exec_sampling_of_not_timeKept {i : Instr} (hi : i = .updateAll ∨ i = .initialise ∨ i = .tick)
    (h : ¬ TimeKept s) : exec i s = .next { s with fault := 0x05#8 } := by
  have late := timeOk_of_not_timeKept h
  rcases hi with rfl | rfl | rfl
  · simp [exec, execUpdateAll, late, FaultCode.code]
  · simp [exec, execInitialise, late, FaultCode.code]
  · simp [exec, execTick, late, FaultCode.code]

theorem exec_isActive_of_not_timeKept {sensor : Byte} {i : Input} (hi : sensorOperand sensor = some i)
    (h : ¬ TimeKept s) : exec (.isActive sensor) s = .next { s with fault := 0x05#8 } := by
  simp [exec, execIsActive, hi, timeOk_of_not_timeKept h, FaultCode.code]

/-- The index is checked before the time, so nothing is asked of NOW here. -/
theorem exec_isActive_of_illegal {sensor : Byte} (h : sensorOperand sensor = none) :
    exec (.isActive sensor) s = .next { s with fault := 0x03#8 } := by
  simp [exec, execIsActive, h, FaultCode.code]

end

/-! ### The obligations -/

/-- Settles O18: with its time kept the operation passes its checks and leaves `executed`, whose records are
`sampledRecords`; otherwise the time check raises. -/
theorem updateAllOperation : Obligations.UpdateAllOperation := by
  refine ⟨rfl, fun s => ⟨fun kept => ?_, exec_sampling_of_not_timeKept (.inl rfl)⟩⟩
  rw [exec_of_passes .updateAll s kept, executed, sampledRecords_eq]
  rfl

/-- Settles O19: a legal byte names the input at its place in the list, and RES is `isActiveAt` of that input; an illegal
byte names none. -/
theorem isActiveOperation : Obligations.IsActiveOperation := by
  refine fun sensor => ⟨packWord_zero_zero sensor 0x11#8, fun s =>
    ⟨fun i hi => ?_, fun illegal => exec_isActive_of_illegal (sensorOperand_eq_none illegal)⟩⟩
  have named : sensorOperand sensor = some i := (sensorOperand_eq_getElem? sensor).trans hi
  refine ⟨fun kept => ?_, exec_isActive_of_not_timeKept named⟩
  have passes : Passes (.isActive sensor) s := ⟨kept, by simp [named]⟩
  rw [exec_of_passes _ s passes, executed, named, ← resBool_isActiveAt]

/-- Settles O21: as UPDATE_ALL, and each cached flag is `isActiveAt` over the records of this very sample. -/
theorem tickOperation : Obligations.TickOperation := by
  refine ⟨rfl, fun s since hsince => ⟨fun kept => ?_, exec_sampling_of_not_timeKept (.inr (.inr rfl))⟩⟩
  have records : sampledRecords s.cfg s.raw s.port.now s.sr = .ofFn since :=
    (sampledRecords_eq _ _ _ _).trans (congrArg PerInput.ofFn (funext hsince).symm)
  rw [exec_of_passes .tick s kept, executed, records]
  simp only [isActiveAt_eq, PerInput.get_ofFn]
  rfl

end Sys2Proof.Machine
end

section
/-! PROOFS. The family `41_motor.md`: the words and next states of SET_SPEED (R150), LOCK (R153), UNLOCK (R156),
SET_DIRECTION (R159) and ENABLE (R162). -/

namespace Sys2Proof

/-! ### The reserved bits of SET_DIRECTION (`30_encoding.md` R92, R100) -/

/-- A word that selects a row without being one of its words has a reserved bit set. -/
theorem decode_eq_reservedBitsSet {w : OpWord} {row : Row}
    (selected : (opcodeMap.find? fun r => r.opcode == opField w) = some row)
    (unmatched : w &&& row.mask ≠ row.pattern) :
    decode w = .error .reservedBitsSet := by
  simp only [decode, selected, if_neg unmatched]

/-- A byte whose bits above bit 0 are all zero is its own bit 0, so it is 0 or 1. -/
theorem Byte.toNat_lt_two_of_and_eq_zero {a : Byte} (clear : a &&& 0xFE#8 = 0x00#8) : a.toNat < 2 := by
  have bitZero : a = a &&& 0x01#8 := calc
    a = a &&& (0xFE#8 ||| 0x01#8) := (BitVec.and_allOnes (x := a)).symm
    _ = a &&& 0x01#8 := by rw [BitVec.and_or_distrib_left, clear, BitVec.zero_or]
  rw [bitZero, BitVec.toNat_and]
  exact Nat.and_lt_two_pow (n := 1) a.toNat (by decide)

/-- SET_DIRECTION's mask leaves bit 0 of the field A free and no other bit of it. -/
theorem decode_setDirection_reserved {a : Byte} (h : 2 ≤ a.toNat) :
    decode (packWord 0x00#8 0x00#8 a 0x23#8) = .error .reservedBitsSet := by
  refine decode_eq_reservedBitsSet
    (row := ⟨0x23#8, 0xFFFFFEFF#32, 0x00000023#32, fun a _ => .setDirection (dirOfBit (a.getLsbD 0))⟩)
    ?_ fun matched => ?_
  · rw [opField_packWord]
    rfl
  · have masked : packWord 0x00#8 0x00#8 (a &&& 0xFE#8) 0x23#8 = packWord 0x00#8 0x00#8 0x00#8 0x23#8 :=
      (packWord_and 0x00#8 0x00#8 a 0x23#8 0xFF#8 0xFF#8 0xFE#8 0xFF#8).symm.trans matched
    have clear : a &&& 0xFE#8 = 0x00#8 := by simpa using congrArg aField masked
    exact absurd (Byte.toNat_lt_two_of_and_eq_zero clear) (Nat.not_lt.2 h)

end Sys2Proof

namespace Sys2Proof.Machine

theorem dirLevel_eq_decide (dir : Dir) : dirLevel dir = decide (dir = .down) := by
  cases dir <;> rfl

/-! ### The obligations -/

/-- Settles O28: compare-and-skip is the body's own case split; with the recorded frequency, `executed` writes back what
each field holds. -/
theorem setSpeedOperation : Obligations.SetSpeedOperation := by
  refine ⟨rfl, fun s => ⟨fun new => ?_, fun recorded => ?_⟩⟩
  · rw [exec_of_passes .setSpeed s trivial, executed, if_neg new, if_neg new]
    rfl
  · rw [exec_of_passes .setSpeed s trivial, executed, if_pos recorded, if_pos recorded, List.append_nil, recorded]
    rfl

/-- Settles O30: LOCK checks nothing, and the configuration decides whether the lock release is among its writes. -/
theorem lockOperation : Obligations.LockOperation := by
  have runs (s : State) : exec .lock s = finish resNone (lockBody s) := rfl
  refine ⟨rfl, fun s => ⟨fun reengages => ?_, fun keeps => ?_⟩⟩
  · rw [runs, lockBody_eq, if_pos reengages]
    rfl
  · rw [runs, lockBody_eq, if_neg (Bool.eq_false_iff.1 keeps)]
    rfl

/-- Settles O31: the enable is UNLOCK's one check; past it the next state is `executed`, otherwise the check raises. -/
theorem unlockOperation : Obligations.UnlockOperation := by
  refine ⟨rfl, fun s => ⟨exec_of_passes .unlock s, fun disabled => ?_⟩⟩
  simp [exec, execUnlock, disabled, FaultCode.code]

/-- Settles O32: the body compares nothing, so one next state serves every state and both directions. -/
theorem setDirectionOperation : Obligations.SetDirectionOperation := by
  refine ⟨rfl, rfl, fun a reserved => ?_, fun s dir => ?_⟩
  · exact packWord_zero_zero a 0x23#8 ▸ decode_setDirection_reserved reserved
  · rw [exec_of_passes (.setDirection dir) s trivial, executed, dirLevel_eq_decide]
    rfl

/-- Settles O33: ENABLE checks nothing, so `executed` is its next state in every state. -/
theorem enableOperation : Obligations.EnableOperation :=
  ⟨rfl, fun s => exec_of_passes .enable s trivial⟩

end Sys2Proof.Machine
end

section
/-! PROOFS. The family `42_fsm.md`: the words and next states of DRIVE_PROBE (R181) and STOP_PROBE (R186), and the answers
of the five sensor accessors (R190–R194) and of IS_IN_STOP_STATE (R195). -/

namespace Sys2Proof

/-- DRIVE_PROBE's word: the direction is bit 0 of the field B (`30_encoding.md` R92, R93). -/
theorem encode_driveProbe (target : Byte) (dir : Dir) :
    encode (.driveProbe target dir) =
      0x00000030#32 ||| (target.setWidth 32 <<< 8) ||| (if dir = .down then 0x00010000#32 else 0x00000000#32) := by
  cases dir <;> simp [encode, packWord, dirByte]

end Sys2Proof

namespace Sys2Proof.Machine

/-! ### The legal targets -/

theorem moveTarget_eq_some_iff (target : Byte) (m : FsmState) :
    moveTarget target = some m ↔
      (target, m) ∈ [(1#8, FsmState.goingDown), (2#8, .goingUp), (6#8, .goingUpAfterEmergency)] := by
  constructor
  · unfold moveTarget
    split
    case h_1 h | h_2 h | h_3 h =>
      rintro ⟨⟩
      simp [BitVec.toNat_eq, h]
    case h_4 => exact nofun
  · simp only [List.mem_cons, Prod.mk.injEq, List.not_mem_nil, or_false]
    rintro (⟨rfl, rfl⟩ | ⟨rfl, rfl⟩ | ⟨rfl, rfl⟩) <;> rfl

theorem stopTarget_eq_some_iff (target : Byte) (m : FsmState) :
    stopTarget target = some m ↔
      (target, m) ∈ [(3#8, FsmState.stopDown), (4#8, .stopUp), (5#8, .emergencyStop)] := by
  constructor
  · unfold stopTarget
    split
    case h_1 h | h_2 h | h_3 h =>
      rintro ⟨⟩
      simp [BitVec.toNat_eq, h]
    case h_4 => exact nofun
  · simp only [List.mem_cons, Prod.mk.injEq, List.not_mem_nil, or_false]
    rintro (⟨rfl, rfl⟩ | ⟨rfl, rfl⟩ | ⟨rfl, rfl⟩) <;> rfl

theorem moveTarget_eq_none {target : Byte} (h1 : target ≠ 1#8) (h2 : target ≠ 2#8) (h6 : target ≠ 6#8) :
    moveTarget target = none :=
  Option.eq_none_iff_forall_ne_some.2 fun m hm => by
    simpa [h1, h2, h6] using (moveTarget_eq_some_iff target m).1 hm

theorem stopTarget_eq_none {target : Byte} (h3 : target ≠ 3#8) (h4 : target ≠ 4#8) (h5 : target ≠ 5#8) :
    stopTarget target = none :=
  Option.eq_none_iff_forall_ne_some.2 fun m hm => by
    simpa [h3, h4, h5] using (stopTarget_eq_some_iff target m).1 hm

/-! ### The faults of the two moving operations, in the order of their checks (`60_exceptions.md` R254) -/

section
variable {s : State} {target : Byte} {dir : Dir} {m : FsmState}

theorem bypassesEStop_of_leaving {allowed : FsmState} (stopped : s.vec.state = .emergencyStop) (leaves : m ≠ allowed) :
    bypassesEStop s allowed m = true := by
  simp [bypassesEStop, stopped, leaves]

theorem exec_driveProbe_of_illegal (h : moveTarget target = none) :
    exec (.driveProbe target dir) s = .next { s with fault := 0x04#8 } := by
  simp [exec, execDriveProbe, h, FaultCode.code]

/-- The enable is checked before the state, so nothing is asked of the state here. -/
theorem exec_driveProbe_of_disabled (hm : moveTarget target = some m) (disabled : s.vec.motorEnable = false) :
    exec (.driveProbe target dir) s = .next { s with fault := 0x06#8 } := by
  simp [exec, execDriveProbe, hm, disabled, FaultCode.code]

theorem exec_driveProbe_of_bypass (hm : moveTarget target = some m) (enabled : s.vec.motorEnable = true)
    (stopped : s.vec.state = .emergencyStop) (leaves : m ≠ .goingUpAfterEmergency) :
    exec (.driveProbe target dir) s = .next { s with fault := 0x07#8 } := by
  simp [exec, execDriveProbe, hm, enabled, bypassesEStop_of_leaving stopped leaves, FaultCode.code]

theorem exec_stopProbe_of_illegal (h : stopTarget target = none) :
    exec (.stopProbe target) s = .next { s with fault := 0x04#8 } := by
  simp [exec, execStopProbe, h, FaultCode.code]

/-- STOP_PROBE checks no enable, so nothing is asked of the motor here. -/
theorem exec_stopProbe_of_bypass (hm : stopTarget target = some m) (stopped : s.vec.state = .emergencyStop)
    (leaves : m ≠ .emergencyStop) :
    exec (.stopProbe target) s = .next { s with fault := 0x07#8 } := by
  simp [exec, execStopProbe, hm, bypassesEStop_of_leaving stopped leaves, FaultCode.code]

end

/-! ### The answers of the accessors -/

/-- `Stopped` is the set `00_scope.md` R16 lists; Init is not in it. -/
theorem isStopped_iff (st : FsmState) :
    isStopped st = true ↔ st = .stopDown ∨ st = .stopUp ∨ st = .emergencyStop := by
  cases st <;> simp [isStopped]

theorem resBool_or (a b : Bool) :
    resBool (a || b) = if a = true ∨ b = true then 0x0001#16 else 0x0000#16 :=
  if_congr Bool.or_eq_true_iff rfl rfl

theorem resBool_isStopped (st : FsmState) :
    resBool (isStopped st) =
      if st = .stopDown ∨ st = .stopUp ∨ st = .emergencyStop then 0x0001#16 else 0x0000#16 :=
  if_congr (isStopped_iff st) rfl rfl

/-! ### The obligations -/

/-- Settles O36: a listed target names its state, and the operation then passes its checks and leaves `executed`, or the
first check that fails raises; any other target names none. -/
theorem driveProbeOperation : Obligations.DriveProbeOperation := by
  refine fun target dir => ⟨encode_driveProbe target dir, fun s => ⟨fun m listed => ?_, fun h1 h2 h6 =>
    exec_driveProbe_of_illegal (moveTarget_eq_none h1 h2 h6)⟩⟩
  have named : moveTarget target = some m := (moveTarget_eq_some_iff target m).2 listed
  refine ⟨fun enabled keeps => ?_, exec_driveProbe_of_bypass named, exec_driveProbe_of_disabled named⟩
  have passes : Passes (.driveProbe target dir) s := ⟨enabled, m, named, keeps⟩
  rw [exec_of_passes _ s passes, executed, named, dirLevel_eq_decide]
  rfl

/-- Settles O37: as DRIVE_PROBE, with no check of the enable. -/
theorem stopProbeOperation : Obligations.StopProbeOperation := by
  refine fun target => ⟨packWord_zero_zero target 0x31#8, fun s => ⟨fun m listed => ?_, fun h3 h4 h5 =>
    exec_stopProbe_of_illegal (stopTarget_eq_none h3 h4 h5)⟩⟩
  have named : stopTarget target = some m := (stopTarget_eq_some_iff target m).2 listed
  refine ⟨fun keeps => ?_, exec_stopProbe_of_bypass named⟩
  have passes : Passes (.stopProbe target) s := ⟨m, named, keeps⟩
  rw [exec_of_passes _ s passes, executed, named]
  rfl

/-- Settles O38: no accessor checks anything, so `executed` is its next state, and that writes `RES` alone. -/
theorem sensorAccessors : Obligations.SensorAccessors := by
  refine ⟨rfl, rfl, rfl, rfl, rfl, fun s => ⟨?_, exec_of_passes .isSensorExtremeUp s trivial,
    exec_of_passes .isSensorDown s trivial, exec_of_passes .isSensorSafety s trivial,
    exec_of_passes .isDebugPressed s trivial⟩⟩
  rw [exec_of_passes .isSensorUp s trivial, executed, resBool_or]
  rfl

/-- Settles O39: the answer is membership in `Stopped`, and `RES` alone is written. -/
theorem isInStopStateOperation : Obligations.IsInStopStateOperation := by
  refine ⟨rfl, fun s => ?_⟩
  rw [exec_of_passes .isInStopState s trivial, executed, resBool_isStopped]

end Sys2Proof.Machine
end

section
/-! PROOFS. The family `43_channels.md`: the words and next states of CTL_READ (R220), CTL_WRITE (R223), DBG_READ (R226) and
DBG_DUMP (R230), the dump's layout (R231) and alphabet (R232, R233), and the decimal form of a number (R236). -/

namespace Sys2Proof.Machine

/-! ### A read, the same contract on either channel (`43_channels.md` R226) -/

section
variable {s : State} {ch : Channel}

theorem finish_rxPop_of_queued {b : Byte} {rest : List Byte} (queued : s.rxq.get ch = b :: rest) :
    finish (resRead (rxHead ch s)) (rxPop ch s) = .next { s with
      rxq := s.rxq.set ch rest, events := s.events ++ [.rxTake ch b], res := b.setWidth 16 } := by
  rw [rxHead, rxPop, queued]
  rfl

theorem finish_rxPop_of_empty (empty : s.rxq.get ch = []) :
    finish (resRead (rxHead ch s)) (rxPop ch s) = .next { s with res := 0xFFFF#16 } := by
  rw [rxHead, rxPop, empty]
  rfl

end

/-! ### The layout of a dump (`43_channels.md` R231) -/

theorem dirBool_eq_decide (dir : Dir) : dirBool dir = decide (dir = .down) := by
  cases dir <;> rfl

theorem serialize_eq (term : Terminator) (v : StateVector) :
    serialize term v = [0x3C#8] ++ [stateCode v.state]
      ++ boolText v.flags.jumper ++ boolText v.flags.debugButton ++ boolText v.flags.sensorExtremeUp
      ++ boolText v.flags.sensorUp ++ boolText v.flags.sensorDown ++ boolText v.flags.sensorSafety
      ++ boolText (decide (v.motorDir = .down)) ++ boolText v.motorEnable ++ boolText v.motorLock
      ++ boolText v.motorDuty
      ++ [0x2E#8] ++ decimal v.pwmFrequency ++ [0x2E#8] ++ decimal v.count ++ [0x3E#8]
      ++ terminatorBytes term := by
  simp [serialize, dumpBools, dirBool_eq_decide]

/-! ### The digits of a number (`43_channels.md` R236) -/

@[simp] theorem toNat_digitByte (n : Nat) : (digitByte n).toNat = 0x30 + n % 10 := by
  rw [digitByte, BitVec.toNat_ofNat]
  omega

/-- `0x30` is the digit of 0 alone. -/
theorem digitByte_ne_zero {n : Nat} (h : n % 10 ≠ 0) : digitByte n ≠ 0x30#8 := fun isZero =>
  h (by simpa using congrArg BitVec.toNat isZero)

/-- Every digit is the `digitByte` of some number, so its byte is that of a decimal digit. -/
theorem exists_digitByte_of_mem_digitsUp (fuel n : Nat) : ∀ d ∈ digitsUp fuel n, ∃ k, d = digitByte k := by
  induction fuel generalizing n with
  | zero => exact fun d hd => ⟨n, List.mem_singleton.1 hd⟩
  | succ fuel ih =>
    rw [digitsUp, List.forall_mem_cons]
    refine ⟨⟨n, rfl⟩, ?_⟩
    split
    · exact nofun
    · exact ih (n / 10)

/-- With fuel for every digit, the positional value is the number: `n = 10 * (n / 10) + n % 10` at each digit. -/
theorem value_digitsUp {fuel n : Nat} (enough : n ≤ fuel) :
    (digitsUp fuel n).foldr (fun d value => 10 * value + (d.toNat - 0x30)) 0 = n := by
  induction fuel generalizing n with
  | zero =>
    obtain rfl : n = 0 := Nat.le_zero.1 enough
    rfl
  | succ fuel ih =>
    rw [digitsUp, List.foldr_cons, toNat_digitByte]
    split
    case isTrue single =>
      rw [List.foldr_nil]
      omega
    case isFalse =>
      rw [ih (by omega)]
      omega

/-- The digits end where the rest of the number is a single digit, which for a number other than 0 is not 0. -/
theorem digitsUp_eq_concat {fuel n : Nat} (enough : n ≤ fuel) (nonzero : n ≠ 0) :
    ∃ low d, digitsUp fuel n = low ++ [d] ∧ d ≠ 0x30#8 := by
  induction fuel generalizing n with
  | zero => exact absurd (Nat.le_zero.1 enough) nonzero
  | succ fuel ih =>
    rw [digitsUp]
    split
    case isTrue single => exact ⟨[], digitByte n, rfl, digitByte_ne_zero (by omega)⟩
    case isFalse more =>
      obtain ⟨low, d, hd, leading⟩ := ih (by omega) more
      exact ⟨digitByte n :: low, d, by rw [hd, List.cons_append], leading⟩

theorem decimal_digit_range {n : Nat} {d : Byte} (hd : d ∈ decimal n) : 0x30 ≤ d.toNat ∧ d.toNat ≤ 0x39 := by
  obtain ⟨k, rfl⟩ := exists_digitByte_of_mem_digitsUp n n d (List.mem_reverse.1 hd)
  rw [toNat_digitByte]
  omega

theorem value_decimal (n : Nat) : (decimal n).foldl (fun value d => 10 * value + (d.toNat - 0x30)) 0 = n :=
  List.foldl_reverse.trans (value_digitsUp le_rfl)

theorem decimal_eq_cons {n : Nat} (nonzero : n ≠ 0) : ∃ d rest, decimal n = d :: rest ∧ d ≠ 0x30#8 := by
  obtain ⟨low, d, hd, leading⟩ := digitsUp_eq_concat le_rfl nonzero
  exact ⟨d, low.reverse, by rw [decimal, hd, List.reverse_concat], leading⟩

/-! ### The obligations -/

/-- Settles O50: `decimal` is the digits of `digitsUp` reversed, whose fuel, the number itself, is enough. -/
theorem decimalDigits : Obligations.DecimalDigits :=
  ⟨rfl, fun n => ⟨fun _ => decimal_digit_range, value_decimal n, decimal_eq_cons⟩⟩

/-- Settles O45: the two outcomes of a pop, on the control queue. -/
theorem ctlReadOperation : Obligations.CtlReadOperation :=
  ⟨rfl, fun _ => ⟨fun _ _ => finish_rxPop_of_queued (ch := .ctl), finish_rxPop_of_empty (ch := .ctl)⟩⟩

/-- Settles O46: CTL_WRITE checks nothing, so `executed` is its next state in every state. -/
theorem ctlWriteOperation : Obligations.CtlWriteOperation := fun byte =>
  ⟨packWord_zero_zero byte 0x41#8, fun s => exec_of_passes (.ctlWrite byte) s trivial⟩

/-- Settles O47: the two outcomes of a pop, on the debug queue. -/
theorem dbgReadOperation : Obligations.DbgReadOperation :=
  ⟨rfl, fun _ => ⟨fun _ _ => finish_rxPop_of_queued (ch := .dbg), finish_rxPop_of_empty (ch := .dbg)⟩⟩

/-- Settles O48: DBG_DUMP checks nothing, and the bytes `executed` appends are those of the layout. -/
theorem dbgDumpOperation : Obligations.DbgDumpOperation := by
  refine ⟨rfl, fun s dump layout => ?_⟩
  rw [layout, ← serialize_eq]
  exact exec_of_passes .dbgDump s trivial

/-- Settles O49: the rows of `stateCode` and the two branches of `boolText`. -/
theorem dumpAlphabet : Obligations.DumpAlphabet :=
  ⟨rfl, rfl, rfl, rfl, rfl, rfl, rfl, rfl, rfl⟩

end Sys2Proof.Machine
end

section
/-! PROOFS. Encoding and decoding of the operation word, through the rows of the opcode map (`30_encoding.md` R91–R102). -/

namespace Sys2Proof

/-! ### The rows of the opcode map -/

/-- A word whose masked bits are the row's match (`30_encoding.md` R98). -/
def Row.Matches (row : Row) (w : OpWord) : Prop := w &&& row.mask = row.pattern

/-- Every row fixes the bytes C and OP whole, and asks C and the reserved bits of A and B to be zero
(`30_encoding.md` R91, R92). -/
def Row.Layout (row : Row) : Prop :=
  row.mask.extractLsb' 24 8 = 0xFF#8 ∧ opField row.mask = 0xFF#8 ∧ row.pattern = packWord 0x00#8 0x00#8 0x00#8 row.opcode

theorem layout_of_mem : ∀ row ∈ opcodeMap, row.Layout := by
  unfold Row.Layout
  decide

theorem nodup_opcodes : (opcodeMap.map Row.opcode).Nodup := by decide

/-- In a list without a repeated key, the first element with an element's key is that element. -/
theorem find?_key_of_nodup {α β : Type} [DecidableEq β] {key : α → β} {l : List α} (nodup : (l.map key).Nodup)
    {x : α} (hx : x ∈ l) : (l.find? fun y => key y == key x) = some x := by
  induction l with
  | nil => exact absurd hx List.not_mem_nil
  | cons y ys ih =>
    rw [List.map_cons, List.nodup_cons] at nodup
    obtain ⟨fresh, nodup⟩ := nodup
    rcases List.mem_cons.1 hx with rfl | later
    · simp
    · have differs : key y ≠ key x := fun same => fresh (same ▸ List.mem_map_of_mem later)
      rw [List.find?_cons_of_neg (by simpa using differs)]
      exact ih nodup later

/-- The opcode alone selects the row: no two rows share one. -/
theorem find?_opcode {row : Row} (hrow : row ∈ opcodeMap) {w : OpWord} (hop : opField w = row.opcode) :
    (opcodeMap.find? fun r => r.opcode == opField w) = some row :=
  hop ▸ find?_key_of_nodup nodup_opcodes hrow

/-- Meeting a byte with all ones leaves it. -/
@[simp] theorem Byte.and_ones (a : Byte) : a &&& 0xFF#8 = a := BitVec.and_allOnes

/-- The fields of a word that matches a row. -/
theorem fields_of_matches {row : Row} (layout : row.Layout) {w : OpWord} (matched : row.Matches w) :
    w.extractLsb' 24 8 = 0x00#8 ∧ bField w &&& bField row.mask = 0x00#8 ∧ aField w &&& aField row.mask = 0x00#8 ∧
      opField w = row.opcode := by
  obtain ⟨maskC, maskOp, pattern⟩ := layout
  have packed := matched.trans pattern
  rw [← packWord_fields w, ← packWord_fields row.mask, packWord_and, maskC, maskOp] at packed
  refine ⟨?_, ?_, ?_, ?_⟩
  · simpa using congrArg (·.extractLsb' 24 8) packed
  · simpa using congrArg bField packed
  · simpa using congrArg aField packed
  · simpa using congrArg opField packed

/-- Decoding answers an operation exactly for the words that match a row, and then that row's operation. -/
theorem decode_eq_ok_iff (w : OpWord) (i : Instr) :
    decode w = .ok i ↔ ∃ row ∈ opcodeMap, row.Matches w ∧ i = row.build (aField w) (bField w) := by
  constructor
  · intro h
    unfold decode at h
    split at h
    case h_1 => cases h
    case h_2 row found =>
      split at h
      case isTrue matched => exact ⟨row, List.mem_of_find?_eq_some found, matched, (Except.ok.inj h).symm⟩
      case isFalse => cases h
  · rintro ⟨row, hrow, matched, rfl⟩
    obtain ⟨-, -, -, hop⟩ := fields_of_matches (layout_of_mem row hrow) matched
    have masked : w &&& row.mask = row.pattern := matched
    simp only [decode, find?_opcode hrow hop, if_pos masked]

/-! ### The operands of a row -/

/-- A row and the encoder agree: the word of the operation the row builds holds the operand bits that the row's mask
leaves free, and the row reads no other bit of the fields A and B (`30_encoding.md` R92, R93). -/
def Row.Agrees (row : Row) : Prop :=
  ∀ a b : Byte,
    encode (row.build a b) =
      packWord 0x00#8 (b &&& ~~~bField row.mask) (a &&& ~~~aField row.mask) row.opcode ∧
    row.build (a &&& ~~~aField row.mask) (b &&& ~~~bField row.mask) = row.build a b

@[simp] theorem dirByte_dirOfBit (a : Byte) : dirByte (dirOfBit a[0]) = a &&& 0x01#8 := by
  ext j hj
  cases h : a[0] <;> rcases j with _ | j <;> simp_all [dirByte, dirOfBit]

@[simp] theorem dirOfBit_dirByte (dir : Dir) : dirOfBit (dirByte dir)[0] = dir := by
  cases dir <;> rfl

/-- A row that leaves no bit free. -/
theorem Row.Agrees.fixed (op : Byte) (pattern : OpWord) {i : Instr}
    (h : encode i = packWord 0x00#8 0x00#8 0x00#8 op) : Row.Agrees ⟨op, 0xFFFFFFFF#32, pattern, fun _ _ => i⟩ := by
  intro a b
  have maskB : bField 0xFFFFFFFF#32 = 0xFF#8 := rfl
  have maskA : aField 0xFFFFFFFF#32 = 0xFF#8 := rfl
  simp [h, maskA, maskB]

/-- A row whose operand is the whole field A. -/
theorem Row.Agrees.byte (op : Byte) (pattern : OpWord) {build : Byte → Instr}
    (h : ∀ a, encode (build a) = packWord 0x00#8 0x00#8 a op) :
    Row.Agrees ⟨op, 0xFFFF00FF#32, pattern, fun a _ => build a⟩ := by
  intro a b
  have maskB : bField 0xFFFF00FF#32 = 0xFF#8 := rfl
  have maskA : aField 0xFFFF00FF#32 = 0x00#8 := rfl
  simp [h, maskA, maskB]

/-- SET_DIRECTION's row, whose operand is bit 0 of the field A. -/
theorem Row.Agrees.setDirection (pattern : OpWord) :
    Row.Agrees ⟨0x23#8, 0xFFFFFEFF#32, pattern, fun a _ => .setDirection (dirOfBit (a.getLsbD 0))⟩ := by
  intro a b
  have maskB : bField 0xFFFFFEFF#32 = 0xFF#8 := rfl
  have maskA : aField 0xFFFFFEFF#32 = 0xFE#8 := rfl
  simp [maskA, maskB, encode]

/-- DRIVE_PROBE's row, whose operands are the field A and bit 0 of the field B. -/
theorem Row.Agrees.driveProbe (pattern : OpWord) :
    Row.Agrees ⟨0x30#8, 0xFFFE00FF#32, pattern, fun a b => .driveProbe a (dirOfBit (b.getLsbD 0))⟩ := by
  intro a b
  have maskB : bField 0xFFFE00FF#32 = 0xFE#8 := rfl
  have maskA : aField 0xFFFE00FF#32 = 0x00#8 := rfl
  simp [maskA, maskB, encode]

theorem agrees_of_mem : ∀ row ∈ opcodeMap, row.Agrees := by
  have debouncer : ∀ row ∈ debouncerRows, row.Agrees := by
    simp only [debouncerRows, List.forall_mem_cons]
    exact ⟨.fixed _ _ rfl, .byte _ _ fun _ => rfl, .fixed _ _ rfl, .fixed _ _ rfl, nofun⟩
  have motor : ∀ row ∈ motorRows, row.Agrees := by
    simp only [motorRows, List.forall_mem_cons]
    exact ⟨.fixed _ _ rfl, .fixed _ _ rfl, .fixed _ _ rfl, .setDirection _, .fixed _ _ rfl, nofun⟩
  have fsm : ∀ row ∈ fsmRows, row.Agrees := by
    simp only [fsmRows, List.forall_mem_cons]
    exact ⟨.driveProbe _, .byte _ _ fun _ => rfl, .fixed _ _ rfl, .fixed _ _ rfl, .fixed _ _ rfl, .fixed _ _ rfl,
      .fixed _ _ rfl, .fixed _ _ rfl, nofun⟩
  have channel : ∀ row ∈ channelRows, row.Agrees := by
    simp only [channelRows, List.forall_mem_cons]
    exact ⟨.fixed _ _ rfl, .byte _ _ fun _ => rfl, .fixed _ _ rfl, .fixed _ _ rfl, nofun⟩
  simp only [opcodeMap, List.forall_mem_append]
  exact ⟨⟨⟨debouncer, motor⟩, fsm⟩, channel⟩

/-- Every operation is built by the row at its place in the opcode map. -/
theorem exists_row_build (i : Instr) : ∃ row ∈ opcodeMap, ∃ a b, row.build a b = i := by
  cases i with
  | updateAll => exact ⟨opcodeMap[0], List.getElem_mem _, 0#8, 0#8, rfl⟩
  | isActive sensor => exact ⟨opcodeMap[1], List.getElem_mem _, sensor, 0#8, rfl⟩
  | initialise => exact ⟨opcodeMap[2], List.getElem_mem _, 0#8, 0#8, rfl⟩
  | tick => exact ⟨opcodeMap[3], List.getElem_mem _, 0#8, 0#8, rfl⟩
  | setSpeed => exact ⟨opcodeMap[4], List.getElem_mem _, 0#8, 0#8, rfl⟩
  | lock => exact ⟨opcodeMap[5], List.getElem_mem _, 0#8, 0#8, rfl⟩
  | unlock => exact ⟨opcodeMap[6], List.getElem_mem _, 0#8, 0#8, rfl⟩
  | setDirection dir =>
    exact ⟨opcodeMap[7], List.getElem_mem _, dirByte dir, 0#8, congrArg Instr.setDirection (dirOfBit_dirByte dir)⟩
  | enable => exact ⟨opcodeMap[8], List.getElem_mem _, 0#8, 0#8, rfl⟩
  | driveProbe target dir =>
    exact ⟨opcodeMap[9], List.getElem_mem _, target, dirByte dir,
      congrArg (Instr.driveProbe target) (dirOfBit_dirByte dir)⟩
  | stopProbe target => exact ⟨opcodeMap[10], List.getElem_mem _, target, 0#8, rfl⟩
  | isSensorUp => exact ⟨opcodeMap[11], List.getElem_mem _, 0#8, 0#8, rfl⟩
  | isSensorExtremeUp => exact ⟨opcodeMap[12], List.getElem_mem _, 0#8, 0#8, rfl⟩
  | isSensorDown => exact ⟨opcodeMap[13], List.getElem_mem _, 0#8, 0#8, rfl⟩
  | isSensorSafety => exact ⟨opcodeMap[14], List.getElem_mem _, 0#8, 0#8, rfl⟩
  | isDebugPressed => exact ⟨opcodeMap[15], List.getElem_mem _, 0#8, 0#8, rfl⟩
  | isInStopState => exact ⟨opcodeMap[16], List.getElem_mem _, 0#8, 0#8, rfl⟩
  | ctlRead => exact ⟨opcodeMap[17], List.getElem_mem _, 0#8, 0#8, rfl⟩
  | ctlWrite byte => exact ⟨opcodeMap[18], List.getElem_mem _, byte, 0#8, rfl⟩
  | dbgRead => exact ⟨opcodeMap[19], List.getElem_mem _, 0#8, 0#8, rfl⟩
  | dbgDump => exact ⟨opcodeMap[20], List.getElem_mem _, 0#8, 0#8, rfl⟩

/-- The bits of a byte outside a mask, met with the mask. -/
@[simp] theorem Byte.and_not_and (a m : Byte) : a &&& ~~~m &&& m = 0x00#8 := by
  rw [BitVec.and_assoc, BitVec.and_comm (~~~m), BitVec.and_not_self]
  exact BitVec.and_zero

/-- A byte without a bit of a mask is its own bits outside the mask. -/
theorem Byte.and_not_of_and_eq_zero {a m : Byte} (h : a &&& m = 0x00#8) : a &&& ~~~m = a := by
  calc a &&& ~~~m = a &&& m ||| a &&& ~~~m := by rw [h, BitVec.zero_or]
    _ = a := by rw [← BitVec.and_or_distrib_left, BitVec.or_not_self, BitVec.and_allOnes]

/-- The word a row's operands encode to is a word of that row. -/
theorem matches_encode_build {row : Row} (layout : row.Layout) (agrees : row.Agrees) (a b : Byte) :
    row.Matches (encode (row.build a b)) := by
  obtain ⟨maskC, maskOp, pattern⟩ := layout
  unfold Row.Matches
  rw [(agrees a b).1, pattern]
  conv_lhs => rw [← packWord_fields row.mask, packWord_and, maskC, maskOp]
  simp

/-! ### The obligations -/

/-- Settles O1: the operation's word matches the row that builds it, and its fields A and B hold every bit that row
reads. -/
theorem decodeOfEncode : Obligations.DecodeOfEncode := by
  intro i
  obtain ⟨row, hrow, a, b, rfl⟩ := exists_row_build i
  have agrees := agrees_of_mem row hrow
  obtain ⟨word, operands⟩ := agrees a b
  refine (decode_eq_ok_iff _ _).2 ⟨row, hrow, matches_encode_build (layout_of_mem row hrow) agrees a b, ?_⟩
  rw [word, aField_packWord, bField_packWord, operands]

/-- Settles O2: a word that matches its row holds nothing but the opcode and the operand bits that the row's mask leaves
free. -/
theorem encodeOfDecode : Obligations.EncodeOfDecode := by
  intro w i decodes
  obtain ⟨row, hrow, matched, rfl⟩ := (decode_eq_ok_iff w i).1 decodes
  obtain ⟨byteC, reservedB, reservedA, opcode⟩ := fields_of_matches (layout_of_mem row hrow) matched
  obtain ⟨word, -⟩ := agrees_of_mem row hrow (aField w) (bField w)
  rw [word, Byte.and_not_of_and_eq_zero reservedA, Byte.and_not_of_and_eq_zero reservedB, ← opcode, ← byteC,
    packWord_fields]

/-- Settles O3: matching the row is what `decode_eq_ok_iff` asks. -/
theorem rowSelectsItsWords : Obligations.RowSelectsItsWords :=
  ⟨rfl, fun row hrow w matched => (decode_eq_ok_iff w _).2 ⟨row, hrow, matched, rfl⟩⟩

/-- Settles O4: each word is the encoding of the operation it stands for. -/
theorem workedEncodingsDecode : Obligations.WorkedEncodingsDecode :=
  ⟨decodeOfEncode (.driveProbe 1#8 .down), decodeOfEncode (.driveProbe 2#8 .up), decodeOfEncode (.driveProbe 6#8 .up),
    decodeOfEncode (.stopProbe 3#8), decodeOfEncode (.stopProbe 4#8), decodeOfEncode (.stopProbe 5#8),
    decodeOfEncode (.isActive 4#8), decodeOfEncode (.setDirection .down), decodeOfEncode (.ctlWrite 0x41#8)⟩

end Sys2Proof
end

section
/-! PROOFS. What an operation answers, once for all operations: the fault it raises or the state it executes to, and the
parts and buses it leaves alone (`60_exceptions.md` R251, R254, `10_state.md` R60, `30_encoding.md` R92). -/

namespace Sys2Proof.Machine

/-! ### The one outcome of an operation -/

/-- The fault an operation raises in a state, its checks in the order of `60_exceptions.md` R254; `none` where it passes
them all. -/
def faultRaised (i : Instr) (s : State) : Option FaultCode :=
  match i with
  | .updateAll => if timeOk s.port.now s then none else some .nonMonotonicTime
  | .initialise => if timeOk s.port.now s then none else some .nonMonotonicTime
  | .tick => if timeOk s.port.now s then none else some .nonMonotonicTime
  | .isActive sensor =>
    if sensorOperand sensor = none then some .illegalSensorIndex
    else if timeOk s.port.now s then none else some .nonMonotonicTime
  | .unlock => if s.vec.motorEnable then none else some .motorNotEnabled
  | .driveProbe target _ =>
    (moveTarget target).elim (some .illegalTarget) fun m =>
      if s.vec.motorEnable then
        if bypassesEStop s .goingUpAfterEmergency m then some .eStopBypass else none
      else some .motorNotEnabled
  | .stopProbe target =>
    (stopTarget target).elim (some .illegalTarget) fun m =>
      if bypassesEStop s .emergencyStop m then some .eStopBypass else none
  | .setSpeed | .lock | .setDirection _ | .enable | .isSensorUp | .isSensorExtremeUp | .isSensorDown
  | .isSensorSafety | .isDebugPressed | .isInStopState | .ctlRead | .ctlWrite _ | .dbgRead | .dbgDump => none

/-- The state an operation leaves: its fault recorded and nothing else, or `executed`. -/
def outcome (i : Instr) (s : State) : State :=
  (faultRaised i s).elim (executed i s) fun c => { s with fault := c.code }

section
variable {i : Instr} {s : State}

theorem outcome_of_fault {c : FaultCode} (raised : faultRaised i s = some c) :
    outcome i s = { s with fault := c.code } := by
  rw [outcome, raised, Option.elim_some]

theorem outcome_of_none (passed : faultRaised i s = none) : outcome i s = executed i s := by
  rw [outcome, passed, Option.elim_none]

theorem exec_eq_outcome_of_fault {c : FaultCode} (raised : faultRaised i s = some c)
    (h : exec i s = .next { s with fault := c.code }) : exec i s = .next (outcome i s) := by
  rw [h, outcome_of_fault raised]

theorem exec_eq_outcome_of_passes (passed : faultRaised i s = none) (passes : Passes i s) :
    exec i s = .next (outcome i s) := by
  rw [exec_of_passes i s passes, outcome_of_none passed]

/-- The three sampling operations check the time alone. -/
theorem exec_sampling_eq_outcome (hi : i = .updateAll ∨ i = .initialise ∨ i = .tick) :
    exec i s = .next (outcome i s) := by
  by_cases kept : TimeKept s
  · have inTime := (timeOk_iff s s.port.now).2 kept
    rcases hi with rfl | rfl | rfl <;> exact exec_eq_outcome_of_passes (if_pos inTime) kept
  · have late := Bool.eq_false_iff.1 (timeOk_of_not_timeKept kept)
    refine exec_eq_outcome_of_fault (c := .nonMonotonicTime) ?_ (exec_sampling_of_not_timeKept hi kept)
    rcases hi with rfl | rfl | rfl <;> exact if_neg late

theorem exec_isActive_eq_outcome (sensor : Byte) :
    exec (.isActive sensor) s = .next (outcome (.isActive sensor) s) := by
  cases named : sensorOperand sensor with
  | none => exact exec_eq_outcome_of_fault (c := .illegalSensorIndex) (if_pos named) (exec_isActive_of_illegal named)
  | some i =>
    by_cases kept : TimeKept s
    · exact exec_eq_outcome_of_passes (by simp [faultRaised, named, (timeOk_iff s s.port.now).2 kept])
        ⟨kept, by simp [named]⟩
    · exact exec_eq_outcome_of_fault (c := .nonMonotonicTime)
        (by simp [faultRaised, named, timeOk_of_not_timeKept kept]) (exec_isActive_of_not_timeKept named kept)

theorem exec_unlock_eq_outcome : exec .unlock s = .next (outcome .unlock s) := by
  cases enable : s.vec.motorEnable with
  | true => exact exec_eq_outcome_of_passes (by simp [faultRaised, enable]) enable
  | false =>
    exact exec_eq_outcome_of_fault (c := .motorNotEnabled) (by simp [faultRaised, enable])
      ((unlockOperation.2 s).2 enable)

theorem exec_driveProbe_eq_outcome (target : Byte) (dir : Dir) :
    exec (.driveProbe target dir) s = .next (outcome (.driveProbe target dir) s) := by
  cases named : moveTarget target with
  | none =>
    exact exec_eq_outcome_of_fault (c := .illegalTarget) (by simp [faultRaised, named])
      (exec_driveProbe_of_illegal named)
  | some m =>
    cases enable : s.vec.motorEnable with
    | false =>
      exact exec_eq_outcome_of_fault (c := .motorNotEnabled) (by simp [faultRaised, named, enable])
        (exec_driveProbe_of_disabled named enable)
    | true =>
      by_cases bypass : s.vec.state = .emergencyStop ∧ m ≠ .goingUpAfterEmergency
      · obtain ⟨stopped, leaves⟩ := bypass
        exact exec_eq_outcome_of_fault (c := .eStopBypass)
          (by simp [faultRaised, named, enable, bypassesEStop_of_leaving stopped leaves])
          (exec_driveProbe_of_bypass named enable stopped leaves)
      · exact exec_eq_outcome_of_passes (by simpa [faultRaised, named, enable, bypassesEStop] using bypass)
          ⟨enable, m, named, by simpa using bypass⟩

theorem exec_stopProbe_eq_outcome (target : Byte) :
    exec (.stopProbe target) s = .next (outcome (.stopProbe target) s) := by
  cases named : stopTarget target with
  | none =>
    exact exec_eq_outcome_of_fault (c := .illegalTarget) (by simp [faultRaised, named])
      (exec_stopProbe_of_illegal named)
  | some m =>
    by_cases bypass : s.vec.state = .emergencyStop ∧ m ≠ .emergencyStop
    · obtain ⟨stopped, leaves⟩ := bypass
      exact exec_eq_outcome_of_fault (c := .eStopBypass)
        (by simp [faultRaised, named, bypassesEStop_of_leaving stopped leaves])
        (exec_stopProbe_of_bypass named stopped leaves)
    · exact exec_eq_outcome_of_passes (by simpa [faultRaised, named, bypassesEStop] using bypass)
        ⟨m, named, by simpa using bypass⟩

end

/-- Every operation answers a next state, its outcome. -/
theorem exec_eq_outcome (i : Instr) (s : State) : exec i s = .next (outcome i s) := by
  cases i with
  | updateAll => exact exec_sampling_eq_outcome (.inl rfl)
  | initialise => exact exec_sampling_eq_outcome (.inr (.inl rfl))
  | tick => exact exec_sampling_eq_outcome (.inr (.inr rfl))
  | isActive sensor => exact exec_isActive_eq_outcome sensor
  | unlock => exact exec_unlock_eq_outcome
  | driveProbe target dir => exact exec_driveProbe_eq_outcome target dir
  | stopProbe target => exact exec_stopProbe_eq_outcome target
  | setSpeed | lock | setDirection | enable | isSensorUp | isSensorExtremeUp | isSensorDown | isSensorSafety
  | isDebugPressed | isInStopState | ctlRead | ctlWrite | dbgRead | dbgDump =>
    exact exec_eq_outcome_of_passes rfl trivial

/-! ### What an operation leaves alone -/

section
variable (i : Instr) (s : State)

@[simp] theorem executed_cfg : (executed i s).cfg = s.cfg := by cases i <;> rfl
@[simp] theorem executed_fault : (executed i s).fault = s.fault := by cases i <;> rfl
@[simp] theorem executed_port : (executed i s).port = s.port := by cases i <;> rfl
@[simp] theorem executed_pending : (executed i s).pending = s.pending := by cases i <;> rfl

variable {i}

theorem executed_raw (h : i ≠ .initialise) : (executed i s).raw = s.raw := by
  cases i with
  | initialise => exact absurd rfl h
  | _ => rfl

theorem executed_lastNow (h : usesNow i = false) : (executed i s).lastNow = s.lastNow := by
  cases i with
  | updateAll | isActive | initialise | tick => cases h
  | _ => rfl

/-- The access summary of `10_state.md` R60, part by part: each part either is on the operation's row or reads as
before. -/
theorem executed_same {p : Part} (h : p ∉ writableParts s.cfg.lockReengages i) : p.Same s (executed i s) := by
  revert h
  cases i with
  | lock | stopProbe =>
    cases reengages : s.cfg.lockReengages <;> cases p <;>
      simp [writableParts, lockParts, Part.Same, executed, reengages]
  | _ => cases p <;> simp [writableParts, Part.Same, executed]

theorem Part.same_of_fault (p : Part) (c : FaultWord) : p.Same s { s with fault := c } := by
  cases p <;> rfl

end

/-! ### Buses an operation ignores -/

section
variable {i : Instr} (s : State) (x : Nat)

/-- `s` with another NOW on the op port. -/
def State.onNow (s : State) (n : Nat) : State := { s with port := { s.port with now := n } }

/-- `s` with another FREQ on the op port. -/
def State.onFreq (s : State) (f : Nat) : State := { s with port := { s.port with freq := f } }

theorem outcome_onNow (h : usesNow i = false) : outcome i (s.onNow x) = (outcome i s).onNow x := by
  have raised : faultRaised i (s.onNow x) = faultRaised i s := by
    cases i with
    | updateAll | isActive | initialise | tick => cases h
    | _ => rfl
  have executes : executed i (s.onNow x) = (executed i s).onNow x := by
    cases i with
    | updateAll | isActive | initialise | tick => cases h
    | _ => rfl
  rw [outcome, outcome, raised, executes]
  cases faultRaised i s <;> rfl

theorem outcome_onFreq (h : usesFreq i = false) : outcome i (s.onFreq x) = (outcome i s).onFreq x := by
  have raised : faultRaised i (s.onFreq x) = faultRaised i s := by
    cases i with
    | setSpeed | driveProbe => cases h
    | _ => rfl
  have executes : executed i (s.onFreq x) = (executed i s).onFreq x := by
    cases i with
    | setSpeed | driveProbe => cases h
    | _ => rfl
  rw [outcome, outcome, raised, executes]
  cases faultRaised i s <;> rfl

end

/-! ### The obligations -/

/-- Settles O10: an operation records a fault and nothing else, or it leaves `executed`, which keeps `FAULT`. -/
theorem faultsArePrecise : Obligations.FaultsArePrecise := by
  intro i s t answers faulted
  rcases exec_cases i s t answers with ⟨c, rfl⟩ | ⟨-, rfl⟩
  · rfl
  · exact absurd (executed_fault i s) faulted

/-- Settles O40: a fault changes no part, and `executed` only the parts of the operation's row. -/
theorem accessSummaryHolds : Obligations.AccessSummaryHolds := by
  intro i s t answers
  rcases exec_cases i s t answers with ⟨c, rfl⟩ | ⟨-, rfl⟩
  · exact ⟨fun p _ => p.same_of_fault s c.code, rfl, rfl, rfl, fun _ => rfl⟩
  · exact ⟨fun p => executed_same s, executed_cfg i s, executed_port i s, executed_pending i s, executed_raw s⟩

/-- Settles O59: the outcome on another value of an ignored bus is the outcome, the bus itself apart. -/
theorem ignoredBusesAreNotRead : Obligations.IgnoredBusesAreNotRead := by
  intro i s t n f answers
  obtain rfl : outcome i s = t := Host.Outcome.next.inj ((exec_eq_outcome i s).symm.trans answers)
  refine ⟨fun ignores => ⟨?_, ?_⟩, fun ignores => ?_⟩
  · rcases exec_cases i s _ answers with ⟨c, h⟩ | ⟨-, h⟩ <;> rw [h]
    exact executed_lastNow s ignores
  · exact (exec_eq_outcome i (s.onNow n)).trans (congrArg _ (outcome_onNow s n ignores))
  · exact (exec_eq_outcome i (s.onFreq f)).trans (congrArg _ (outcome_onFreq s f ignores))

end Sys2Proof.Machine
end

section
/-! PROOFS. The step: what each thing scheduled does, and what every step but a reset leaves alone (`60_exceptions.md`
R250–R262, `70_reset_and_hazards.md` R280, `30_encoding.md` R95, R100, R101). -/

namespace Sys2Proof.Machine

/-! ### The step of each thing scheduled -/

section
variable {s : State} {rest : List Stimulus}

theorem halted_eq_false (running : s.fault = 0x00#8) : s.halted = false := by
  simp [State.halted, running]

theorem halted_eq_true (stopped : s.fault ≠ 0x00#8) : s.halted = true := by
  simp [State.halted, stopped]

theorem step_of_empty (h : s.pending = []) : step s = .next s := by
  simp only [step, arrive, h]

theorem step_setLevel {i : Input} {level : Bool} (h : s.pending = .setLevel i level :: rest) :
    step s = .next { s with pending := rest, raw := s.raw.set i level } := by
  simp only [step, arrive, h]
  rfl

theorem step_rotate (h : s.pending = .rotate :: rest) : step s = .next (rotate (s.withPending rest)) := by
  simp only [step, arrive, h]

theorem step_hostPush {ch : Channel} {b : Byte} (h : s.pending = .hostPush ch b :: rest) :
    step s = .next (hostPush ch b (s.withPending rest)) := by
  simp only [step, arrive, h]

theorem step_hostRead {ch : Channel} (h : s.pending = .hostRead ch :: rest) :
    step s = .next { s with pending := rest } := by
  simp only [step, arrive, h]
  rfl

theorem step_hardwareReset (h : s.pending = .hardwareReset :: rest) :
    step s = .next { State.reset with cfg := s.cfg, port := s.port, raw := s.raw, pending := rest } := by
  simp only [step, arrive, h]
  rfl

theorem step_operation_of_halted {tx : Transaction} (stopped : s.fault ≠ 0x00#8)
    (h : s.pending = .operation tx :: rest) : step s = .next { s with pending := rest } := by
  have : (s.withPending rest).halted = true := halted_eq_true stopped
  simp only [step, arrive, h, this, if_true]
  rfl

/-- The state in which the operation of a transaction executes: off the schedule, on the op port. -/
def issue (tx : Transaction) (rest : List Stimulus) (s : State) : State := present tx (s.withPending rest)

theorem arrive_operation {tx : Transaction} (running : s.fault = 0x00#8) (h : s.pending = .operation tx :: rest) :
    arrive s = .issued (issue tx rest s) := by
  have : (s.withPending rest).halted = false := halted_eq_false running
  simp only [arrive, h, this, Bool.false_eq_true, if_false]
  rfl

theorem step_operation {tx : Transaction} {i : Instr} (running : s.fault = 0x00#8)
    (h : s.pending = .operation tx :: rest) (decodes : decode tx.word = .ok i) :
    step s = exec i (issue tx rest s) := by
  have onPort : decode (issue tx rest s).port.word = .ok i := decodes
  simp only [step, arrive_operation running h, onPort]

theorem step_decodeError {tx : Transaction} {e : DecodeError} (running : s.fault = 0x00#8)
    (h : s.pending = .operation tx :: rest) (fails : decode tx.word = .error e) :
    step s = .next { issue tx rest s with fault := (decodeFault e).code } := by
  have onPort : decode (issue tx rest s).port.word = .error e := fails
  simp only [step, arrive_operation running h, onPort]
  rfl

end

/-! ### What a step leaves alone -/

/-- What neither an action of another agent, a hardware reset apart, nor a fault changes: of the block's own state only
`FAULT`, the receive queues and the rotation count may differ. -/
structure Untouched (s t : State) : Prop where
  cfg : t.cfg = s.cfg
  vec : t.vec = { s.vec with count := t.vec.count }
  sr : t.sr = s.sr
  out : t.out = s.out
  txs : t.txs = s.txs
  events : t.events = s.events

theorem untouched_rotate (s : State) : Untouched s (rotate s) := by
  rcases rotate_cases s with ⟨-, h⟩ | ⟨-, h⟩ <;> rw [h] <;> exact ⟨rfl, rfl, rfl, rfl, rfl, rfl⟩

theorem untouched_hostPush (ch : Channel) (b : Byte) (s : State) : Untouched s (hostPush ch b s) := by
  rcases hostPush_cases s ch b with ⟨-, h⟩ | ⟨-, -, h⟩ | ⟨-, -, h⟩ <;> rw [h] <;> exact ⟨rfl, rfl, rfl, rfl, rfl, rfl⟩

/-- A step that is no hardware reset leaves the block untouched, but for an operation that passes its checks. -/
theorem untouched_or_executed {s t : State} (h : step s = .next t) (noReset : s.pending.head? ≠ some .hardwareReset) :
    Untouched s t ∨ ∃ tx rest i, s.pending.head? = some (.operation tx) ∧ s.fault = 0x00#8 ∧ decode tx.word = .ok i ∧
      Passes i (issue tx rest s) ∧ t = executed i (issue tx rest s) := by
  rcases step_cases s t h with ⟨-, rfl⟩ | ⟨a, rest, pending, effect⟩
  · exact .inl ⟨rfl, rfl, rfl, rfl, rfl, rfl⟩
  rcases effect with ⟨i, level, -, rfl⟩ | ⟨-, rfl⟩ | ⟨ch, b, -, rfl⟩ | ⟨ch, -, rfl⟩ | ⟨rfl, -⟩ | ⟨tx, -, -, rfl⟩ |
    ⟨tx, e, -, -, -, raised⟩ | ⟨tx, i, rfl, running, decodes, executes⟩
  case inl => exact .inl ⟨rfl, rfl, rfl, rfl, rfl, rfl⟩
  · obtain ⟨cfg, vec, sr, out, txs, events⟩ := untouched_rotate (s.withPending rest)
    exact .inl ⟨cfg, vec, sr, out, txs, events⟩
  · obtain ⟨cfg, vec, sr, out, txs, events⟩ := untouched_hostPush ch b (s.withPending rest)
    exact .inl ⟨cfg, vec, sr, out, txs, events⟩
  · exact .inl ⟨rfl, rfl, rfl, rfl, rfl, rfl⟩
  · exact absurd (by rw [pending, List.head?_cons]) noReset
  · exact .inl ⟨rfl, rfl, rfl, rfl, rfl, rfl⟩
  · obtain rfl := (raise_eq_next _ _ _).1 raised
    exact .inl ⟨rfl, rfl, rfl, rfl, rfl, rfl⟩
  · rcases exec_cases _ _ _ executes with ⟨c, rfl⟩ | ⟨passes, rfl⟩
    · exact .inl ⟨rfl, rfl, rfl, rfl, rfl, rfl⟩
    · refine .inr ⟨tx, rest, i, by rw [pending, List.head?_cons], ?_, decodes, passes, rfl⟩
      simpa [State.halted] using running

/-! ### The obligations -/

/-- Settles O11: every action of another agent has its next state, and every operation its outcome. -/
theorem stepAlwaysAnswersNext : Obligations.StepAlwaysAnswersNext := by
  intro s
  cases pending : s.pending with
  | nil => exact ⟨_, step_of_empty pending⟩
  | cons a rest =>
    cases a with
    | setLevel i level => exact ⟨_, step_setLevel pending⟩
    | rotate => exact ⟨_, step_rotate pending⟩
    | hostPush ch b => exact ⟨_, step_hostPush pending⟩
    | hostRead ch => exact ⟨_, step_hostRead pending⟩
    | hardwareReset => exact ⟨_, step_hardwareReset pending⟩
    | operation tx =>
      by_cases running : s.fault = 0x00#8
      · cases decodes : decode tx.word with
        | ok i => exact ⟨_, (step_operation running pending decodes).trans (exec_eq_outcome i _)⟩
        | error e => exact ⟨_, step_decodeError running pending decodes⟩
      · exact ⟨_, step_operation_of_halted running pending⟩

/-- Settles O7: the block is not halted, so the word on the op port is decoded and its operation executed. -/
theorem stepRunsDecodedOperation : Obligations.StepRunsDecodedOperation :=
  fun _ _ _ _ running pending decodes => step_operation running pending decodes

theorem presentedWord_toNat (w : OpWord) : presentedWord 32 w.toNat = w := by
  rw [presentedWord, Nat.mod_eq_of_lt w.isLt, BitVec.ofNat_toNat, BitVec.setWidth_eq]

/-- Settles O8: the scheduled word is the operation's word whole, which decodes to the operation (O1). -/
theorem fetchedWordRuns : Obligations.FetchedWordRuns := by
  intro s i running
  rw [State.withFetchWord, presentedWord_toNat]
  exact step_operation (s := scheduleWord (encode i) s) running rfl (decodeOfEncode i)

/-- Settles O9: the three things a halted block ignores, and the fault code after each thing but a reset. -/
theorem haltedBlockExecutesNothing : Obligations.HaltedBlockExecutesNothing := by
  intro s a rest stopped pending
  have halted : (s.withPending rest).halted = true := halted_eq_true stopped
  have dropped (h : (∃ tx, a = .operation tx) ∨ (∃ ch b, a = .hostPush ch b) ∨ a = .rotate) :
      step s = .next { s with pending := rest } := by
    rcases h with ⟨tx, rfl⟩ | ⟨ch, b, rfl⟩ | rfl
    · exact step_operation_of_halted stopped pending
    · rw [step_hostPush pending, hostPush, if_pos halted]
      rfl
    · rw [step_rotate pending, rotate, if_pos halted]
      rfl
  refine ⟨dropped, fun noReset => ?_⟩
  cases a with
  | operation tx => exact ⟨_, dropped (.inl ⟨tx, rfl⟩), rfl⟩
  | setLevel i level => exact ⟨_, step_setLevel pending, rfl⟩
  | rotate => exact ⟨_, dropped (.inr (.inr rfl)), rfl⟩
  | hostPush ch b => exact ⟨_, dropped (.inr (.inl ⟨ch, b, rfl⟩)), rfl⟩
  | hostRead ch => exact ⟨_, step_hostRead pending, rfl⟩
  | hardwareReset => exact absurd rfl noReset

/-- Settles O13: a reset asks nothing of the state before it, a halted one included. -/
theorem hardwareResetRestoresResetState : Obligations.HardwareResetRestoresResetState :=
  fun _ _ => step_hardwareReset

/-- Settles O14: the count is the one thing a rotation writes. -/
theorem rotationIncrementsCount : Obligations.RotationIncrementsCount := by
  intro s rest running pending
  have active : (s.withPending rest).halted = false := halted_eq_false running
  rw [step_rotate pending, rotate, if_neg (Bool.eq_false_iff.1 active)]
  rfl

/-- Settles O15: the push tests the length of its channel's queue against the depth. -/
theorem hostPushQueuesOrOverflows : Obligations.HostPushQueuesOrOverflows := by
  intro s ch b rest running pending
  have active : (s.withPending rest).halted = false := halted_eq_false running
  rw [step_hostPush pending, hostPush, if_neg (Bool.eq_false_iff.1 active)]
  refine ⟨fun room => ?_, fun full => ?_⟩
  · rw [if_pos (show ((s.withPending rest).rxq.get ch).length < (s.withPending rest).cfg.rxDepth from room)]
    rfl
  · rw [if_neg (show ¬ ((s.withPending rest).rxq.get ch).length < (s.withPending rest).cfg.rxDepth from
      Nat.not_lt.2 full)]
    rfl

/-- Settles O16: a level change sets its own wire. -/
theorem outsideStepsLeaveTheBlock : Obligations.OutsideStepsLeaveTheBlock :=
  ⟨fun s i level _ pending => ⟨_, step_setLevel pending, rfl, fun j => PerInput.get_set s.raw i j level⟩,
    fun _ _ _ => step_hostRead, fun _ => step_of_empty⟩

/-! ### Words that are no operation -/

/-- The opcode lies in a range of `30_encoding.md` R101. -/
abbrev IllegalOpcode (op : Byte) : Prop :=
  op.toNat ≤ 0x0F ∨ 0x14 ≤ op.toNat ∧ op.toNat ≤ 0x1F ∨ 0x25 ≤ op.toNat ∧ op.toNat ≤ 0x2F ∨
    0x38 ≤ op.toNat ∧ op.toNat ≤ 0x3F ∨ 0x44 ≤ op.toNat

theorem not_illegalOpcode_of_mem : ∀ row ∈ opcodeMap, ¬ IllegalOpcode row.opcode := by decide

theorem decode_eq_illegalOpcode {w : OpWord} (h : ∀ row ∈ opcodeMap, row.opcode ≠ opField w) :
    decode w = .error .illegalOpcode := by
  have unselected : (opcodeMap.find? fun row => row.opcode == opField w) = none :=
    List.find?_eq_none.2 fun row hrow => by simpa using h row hrow
  simp only [decode, unselected]

/-- Settles O5: no row has the word's opcode, and the step raises the decoder's fault. -/
theorem illegalOpcodeRaises : Obligations.IllegalOpcodeRaises := by
  intro w illegal
  have fails : decode w = .error .illegalOpcode :=
    decode_eq_illegalOpcode fun row hrow same =>
      not_illegalOpcode_of_mem row hrow (same ▸ illegal)
  exact ⟨fails, fun s tx rest running pending word =>
    step_decodeError (e := .illegalOpcode) running pending (word.symm ▸ fails)⟩

/-- Settles O6: the opcode selects the row, and its masked bits do not match. -/
theorem reservedBitsRaise : Obligations.ReservedBitsRaise := by
  intro row hrow w opcode unmatched
  have fails : decode w = .error .reservedBitsSet := decode_eq_reservedBitsSet (find?_opcode hrow opcode) unmatched
  exact ⟨fails, fun s tx rest running pending word =>
    step_decodeError (e := .reservedBitsSet) running pending (word.symm ▸ fails)⟩

end Sys2Proof.Machine
end

section
/-! PROOFS. The event history (`10_state.md` R52): what each operation records, and that the record accounts for the outputs,
the transmit streams and the sensor records after every step. -/

namespace Sys2Proof.Machine

/-! ### One more record -/

theorem sentBytes_append (ch : Channel) (h new : List Event) :
    sentBytes ch (h ++ new) = sentBytes ch h ++ sentBytes ch new := List.filterMap_append

theorem sentBytes_map_tx_same (ch : Channel) (bytes : List Byte) : sentBytes ch (bytes.map (.tx ch)) = bytes := by
  induction bytes with
  | nil => rfl
  | cons b rest ih =>
    have sent : Event.sentOn ch (.tx ch b) = some b := if_pos rfl
    rw [List.map_cons, sentBytes, List.filterMap_cons_some sent, ← sentBytes, ih]

theorem sentBytes_map_tx_other {ch c : Channel} (h : c ≠ ch) (bytes : List Byte) :
    sentBytes ch (bytes.map (.tx c)) = [] :=
  List.filterMap_eq_nil_iff.2 fun e he => by
    obtain ⟨b, -, rfl⟩ := List.mem_map.1 he
    exact if_neg h

/-- The record of input `i` after one more event: a sample updates it (`40_debouncer.md` R120), nothing else does. -/
def recordAfter (active : Bool) (i : Input) (since : Option Nat) : Event → Option Nat
  | .sample t r => updateOne active (r.get i) t since
  | .writeDigital _ _ => since
  | .setPwmDuty _ => since
  | .setPwmFrequency _ => since
  | .rxTake _ _ => since
  | .tx _ _ => since

/-- One more sample starts, continues or breaks the run at the active level as `updateOne` says. -/
theorem runStart_cons (active level : Bool) (t : Nat) (earlier : List (Nat × Bool)) :
    runStart active ((t, level) :: earlier) = updateOne active level t (runStart active earlier) := by
  rw [runStart, updateOne_eq]
  cases runStart active earlier <;> rfl

theorem runStart_samplesOf_concat (active : Bool) (i : Input) (h : List Event) (e : Event) :
    runStart active (samplesOf i (h ++ [e])) = recordAfter active i (runStart active (samplesOf i h)) e := by
  have concat : samplesOf i (h ++ [e]) = ([e].filterMap (Event.sampled i)).reverse ++ samplesOf i h := by
    rw [samplesOf, List.filterMap_append, List.reverse_append, samplesOf]
  rw [concat]
  cases e with
  | sample t r => exact runStart_cons active (r.get i) t _
  | writeDigital | setPwmDuty | setPwmFrequency | rxTake | tx => rfl

theorem runStart_samplesOf_append (active : Bool) (i : Input) (h new : List Event) :
    runStart active (samplesOf i (h ++ new)) =
      new.foldl (recordAfter active i) (runStart active (samplesOf i h)) := by
  induction new generalizing h with
  | nil => rw [List.append_nil, List.foldl_nil]
  | cons e new ih => rw [List.append_cons, ih, runStart_samplesOf_concat, List.foldl_cons]

/-! ### What an operation records -/

/-- `t` comes from `s` by the records `new`: they are appended to the history, and they account for every change of the
outputs, the streams and the sensor records. -/
structure Records (s t : State) (new : List Event) : Prop where
  events : t.events = s.events ++ new
  outputs : t.out = new.foldl replayEvent s.out
  streams : ∀ ch, t.txs.get ch = s.txs.get ch ++ sentBytes ch new
  sensors : ∀ i, t.sr.get i = new.foldl (recordAfter (s.cfg.activeLevel.get i) i) (s.sr.get i)

theorem Untouched.records {s t : State} (h : Untouched s t) : Records s t [] where
  events := by rw [h.events, List.append_nil]
  outputs := h.out
  streams ch := by rw [h.txs]; exact (List.append_nil _).symm
  sensors i := by rw [h.sr]; rfl

theorem sampledRecords_get (cfg : Config) (levels : PerInput Bool) (now : Nat) (sr : PerInput (Option Nat)) (i : Input) :
    (sampledRecords cfg levels now sr).get i = updateOne (cfg.activeLevel.get i) (levels.get i) now (sr.get i) :=
  PerInput.get_ofFn _ i

/-- A read records at most the byte it takes, which no output, stream or sensor record shows. -/
theorem records_rxTake {s t : State} (ch : Channel) (head : Option Byte)
    (events : t.events = s.events ++ (head.map (Event.rxTake ch)).toList) (out : t.out = s.out) (txs : t.txs = s.txs)
    (sr : t.sr = s.sr) : Records s t (head.map (Event.rxTake ch)).toList := by
  refine ⟨events, ?_, ?_, ?_⟩
  · rw [out]
    cases head <;> rfl
  · rw [txs]
    cases head <;> exact fun c => (List.append_nil _).symm
  · rw [sr]
    cases head <;> exact fun i => rfl

/-- A write to a channel records its bytes, which only that channel's stream shows. -/
theorem records_tx {s t : State} (ch : Channel) (bytes : List Byte)
    (events : t.events = s.events ++ bytes.map (.tx ch)) (out : t.out = s.out)
    (txs : t.txs = s.txs.set ch (s.txs.get ch ++ bytes)) (sr : t.sr = s.sr) : Records s t (bytes.map (.tx ch)) := by
  refine ⟨events, ?_, fun c => ?_, fun i => ?_⟩
  · rw [List.foldl_map, out]
    exact (List.foldl_fixed bytes).symm
  · rw [txs]
    by_cases same : ch = c
    · subst same
      rw [PerChannel.get_set_same, sentBytes_map_tx_same]
    · rw [PerChannel.get_set_other _ _ _ _ (Ne.symm same), sentBytes_map_tx_other same, List.append_nil]
  · rw [List.foldl_map, sr]
    exact (List.foldl_fixed bytes).symm

theorem executed_records (i : Instr) (s : State) : ∃ new, Records s (executed i s) new := by
  have silent (ch : Channel) : s.txs.get ch = s.txs.get ch ++ [] := (List.append_nil _).symm
  cases i with
  | updateAll | tick =>
    exact ⟨[.sample s.port.now s.raw], rfl, rfl, silent, fun i => sampledRecords_get _ _ _ _ i⟩
  | initialise =>
    refine ⟨[.sample s.port.now s.raw, .sample (initialiseEnd s) s.port.wait.levels], rfl, rfl, silent, fun i => ?_⟩
    exact (sampledRecords_get _ _ _ _ i).trans (congrArg _ (sampledRecords_get _ _ _ _ i))
  | isActive | isSensorUp | isSensorExtremeUp | isSensorDown | isSensorSafety | isDebugPressed | isInStopState =>
    exact ⟨[], (List.append_nil _).symm, rfl, silent, fun i => rfl⟩
  | setSpeed =>
    by_cases recorded : s.port.freq = s.vec.pwmFrequency
    · refine ⟨[], ?_, ?_, silent, fun i => rfl⟩ <;> simp [executed, recorded]
    · refine ⟨[.setPwmFrequency s.port.freq], ?_, ?_, silent, fun i => rfl⟩ <;>
        simp [executed, recorded, replayEvent]
  | lock | stopProbe =>
    cases reengages : s.cfg.lockReengages
    · refine ⟨[.setPwmDuty .zero], ?_, ?_, silent, fun i => rfl⟩ <;> simp [executed, reengages, replayEvent]
    · refine ⟨[.setPwmDuty .zero, .writeDigital .lock false], ?_, ?_, silent, fun i => rfl⟩ <;>
        simp [executed, reengages, replayEvent]
  | unlock => exact ⟨[.setPwmDuty .half, .writeDigital .lock true], rfl, rfl, silent, fun i => rfl⟩
  | setDirection dir => exact ⟨[.writeDigital .dir (dirLevel dir)], rfl, rfl, silent, fun i => rfl⟩
  | enable => exact ⟨[.writeDigital .en true], rfl, rfl, silent, fun i => rfl⟩
  | driveProbe target dir =>
    by_cases recorded : s.port.freq = s.vec.pwmFrequency
    · refine ⟨[.writeDigital .dir (dirLevel dir), .setPwmDuty .half, .writeDigital .lock true], ?_, ?_, silent,
        fun i => rfl⟩ <;> simp [executed, recorded, replayEvent]
    · refine ⟨[.setPwmFrequency s.port.freq, .writeDigital .dir (dirLevel dir), .setPwmDuty .half,
        .writeDigital .lock true], ?_, ?_, silent, fun i => rfl⟩ <;> simp [executed, recorded, replayEvent]
  | ctlRead => exact ⟨_, records_rxTake .ctl s.rxq.ctl.head? rfl rfl rfl rfl⟩
  | dbgRead => exact ⟨_, records_rxTake .dbg s.rxq.dbg.head? rfl rfl rfl rfl⟩
  | ctlWrite byte => exact ⟨_, records_tx .ctl [byte] rfl rfl rfl rfl⟩
  | dbgDump => exact ⟨_, records_tx .dbg (serialize s.cfg.terminator s.vec) rfl rfl rfl rfl⟩

/-- Every step that is no hardware reset keeps the configuration and is accounted for by the records it appends. -/
theorem step_records {s t : State} (h : step s = .next t) (noReset : s.pending.head? ≠ some .hardwareReset) :
    t.cfg = s.cfg ∧ ∃ new, Records s t new := by
  rcases untouched_or_executed h noReset with untouched | ⟨tx, rest, i, -, -, -, -, rfl⟩
  · exact ⟨untouched.cfg, [], untouched.records⟩
  · obtain ⟨new, events, outputs, streams, sensors⟩ := executed_records i (issue tx rest s)
    exact ⟨executed_cfg i _, new, events, outputs, streams, sensors⟩

theorem Explained.of_records {s t : State} {new : List Event} (h : Explained s) (cfg : t.cfg = s.cfg)
    (records : Records s t new) : Explained t where
  outputs := by rw [records.outputs, records.events, h.outputs, replayOutputs, replayOutputs, List.foldl_append]
  streams ch := by rw [records.streams, records.events, h.streams, sentBytes_append]
  sensors i := by rw [records.sensors, records.events, cfg, h.sensors, runStart_samplesOf_append]

theorem explained_resetWith (cfg : Config) (port : Transaction) (raw : PerInput Bool) (pending : List Stimulus) :
    Explained (.resetWith cfg port raw pending) where
  outputs := rfl
  streams := PerChannel.get_mk_self []
  sensors := PerInput.get_all none

/-- A step whose next scheduled thing is a hardware reset answers a reset state. -/
theorem eq_resetWith_of_step {s t : State} (h : step s = .next t) (reset : s.pending.head? = some .hardwareReset) :
    ∃ rest, t = .resetWith s.cfg s.port s.raw rest := by
  obtain ⟨rest, pending⟩ := List.head?_eq_some_iff.1 reset
  exact ⟨rest, Host.Outcome.next.inj (h.symm.trans (step_hardwareReset pending))⟩

/-! ### The obligations -/

/-- Settles O56: the reset state is `explained_resetWith` of the deployed configuration. -/
theorem explainedAtReset : Obligations.ExplainedAtReset := explained_resetWith _ _ _ _

/-- Settles O57: a reset empties the history and what it accounts for; every other step appends records that account for
the change. -/
theorem historyExplainsState : Obligations.HistoryExplainsState := by
  intro s t explained h
  by_cases reset : s.pending.head? = some .hardwareReset
  · obtain ⟨rest, rfl⟩ := eq_resetWith_of_step h reset
    exact explained_resetWith _ _ _ _
  · obtain ⟨cfg, new, records⟩ := step_records h reset
    exact explained.of_records cfg records

/-- Settles O58: as O57; a reset, which empties the history, keeps the configuration. -/
theorem historyGrowsConfigurationStays : Obligations.HistoryGrowsConfigurationStays := by
  intro s t h
  by_cases reset : s.pending.head? = some .hardwareReset
  · obtain ⟨rest, rfl⟩ := eq_resetWith_of_step h reset
    exact ⟨rfl, fun noReset => absurd reset noReset⟩
  · obtain ⟨cfg, new, records⟩ := step_records h reset
    exact ⟨cfg, fun _ => ⟨new, records.events⟩⟩

end Sys2Proof.Machine
end

section
/-! PROOFS. The conditions of `Coherent`, one by one over the operations, and then over every step. -/

namespace Sys2Proof.Machine

/-! ### Results (`30_encoding.md` R96) -/

/-- `RES` may hold `r`. -/
abbrev ListedResult (r : ResultWord) : Prop := r.toNat ≤ 0xFF ∨ r = 0xFFFF#16

theorem listed_resNone : ListedResult resNone := by decide

theorem listed_resBool (b : Bool) : ListedResult (resBool b) := by
  cases b <;> decide

theorem listed_resRead (head : Option Byte) : ListedResult (resRead head) := by
  cases head with
  | none => exact .inr rfl
  | some b =>
    left
    rw [resRead, BitVec.toNat_setWidth]
    omega

theorem executed_resultListed (i : Instr) (s : State) : ResultListed (executed i s) := by
  cases i with
  | updateAll | initialise | tick | setSpeed | lock | unlock | setDirection | enable | driveProbe | stopProbe
  | ctlWrite | dbgDump => exact listed_resNone
  | isActive sensor =>
    change ListedResult (executed (.isActive sensor) s).res
    simp only [executed]
    cases sensorOperand sensor with
    | none => exact listed_resNone
    | some i => exact listed_resBool _
  | isSensorUp | isSensorExtremeUp | isSensorDown | isSensorSafety | isDebugPressed | isInStopState =>
    exact listed_resBool _
  | ctlRead | dbgRead => exact listed_resRead _

/-! ### Consumed times (`40_debouncer.md` R123) -/

/-- No record is later than `now`. -/
def RecordsUpTo (now : Nat) (sr : PerInput (Option Nat)) : Prop := ∀ i t, sr.get i = some t → t ≤ now

theorem RecordsUpTo.mono {now later : Nat} {sr : PerInput (Option Nat)} (h : RecordsUpTo now sr) (le : now ≤ later) :
    RecordsUpTo later sr := fun i t ht => (h i t ht).trans le

/-- The records of consumed times are not later than a NOW that `checkTime` accepts. -/
theorem recordsUpTo_now {s : State} (consumed : TimesConsumed s) (kept : TimeKept s) :
    RecordsUpTo s.port.now s.sr := fun i t ht => by
  obtain ⟨last, hlast, le⟩ := consumed i t ht
  exact le.trans (kept last hlast)

/-- A sample at `now` records no time later than `now`. -/
theorem RecordsUpTo.sampled {now : Nat} {sr : PerInput (Option Nat)} (h : RecordsUpTo now sr) (cfg : Config)
    (levels : PerInput Bool) : RecordsUpTo now (sampledRecords cfg levels now sr) := by
  intro i t ht
  rw [sampledRecords_get, updateOne_eq] at ht
  split at ht
  case isFalse => cases ht
  case isTrue =>
    obtain rfl := Option.some.inj ht
    cases since : sr.get i with
    | none => exact le_rfl
    | some start => exact h i start since

theorem timesConsumed_of_recordsUpTo {s : State} {now : Nat} (last : s.lastNow = some now)
    (h : RecordsUpTo now s.sr) : TimesConsumed s := fun i t ht => ⟨now, last, h i t ht⟩

theorem now_le_initialiseEnd (s : State) : s.port.now ≤ initialiseEnd s := by
  rw [initialiseEnd]
  omega

theorem executed_timesConsumed {i : Instr} {s : State} (consumed : TimesConsumed s) (passes : Passes i s) :
    TimesConsumed (executed i s) := by
  cases i with
  | updateAll | tick =>
    exact timesConsumed_of_recordsUpTo rfl ((recordsUpTo_now consumed passes).sampled _ _)
  | initialise =>
    have first := (recordsUpTo_now consumed passes).sampled s.cfg s.raw
    exact timesConsumed_of_recordsUpTo rfl ((first.mono (now_le_initialiseEnd s)).sampled _ _)
  | isActive sensor => exact timesConsumed_of_recordsUpTo rfl (recordsUpTo_now consumed passes.1)
  | _ => exact consumed

/-! ### Widths, outputs, queues, moving states -/

theorem executed_widthsKept {s : State} (i : Instr) (h : WidthsKept s) : WidthsKept (executed i s) := by
  obtain ⟨count, frequency, bus, output⟩ := h
  have driven (f : Nat) (hf : (if s.port.freq = s.vec.pwmFrequency then s.out.freq else some s.port.freq) = some f) :
      f < 2 ^ s.cfg.freqBits := by
    split at hf
    case isTrue => exact output f hf
    case isFalse => exact Option.some.inj hf ▸ bus
  cases i with
  | setSpeed | driveProbe => exact ⟨count, bus, bus, driven⟩
  | stopProbe => exact ⟨Nat.two_pow_pos _, frequency, bus, output⟩
  | _ => exact ⟨count, frequency, bus, output⟩

theorem executed_outputsRecorded {s : State} (i : Instr) (h : OutputsRecorded s) : OutputsRecorded (executed i s) := by
  obtain ⟨dir, en, lock, duty, freq⟩ := h
  have driven : (if s.port.freq = s.vec.pwmFrequency then s.out.freq else some s.port.freq) = some s.port.freq ∨
      (if s.port.freq = s.vec.pwmFrequency then s.out.freq else some s.port.freq) = none ∧ s.port.freq = 0 := by
    split
    case isTrue recorded => rwa [recorded]
    case isFalse => exact .inl rfl
  have released : (if s.cfg.lockReengages then some false else s.out.lock) =
        some (if s.cfg.lockReengages then false else s.vec.motorLock) ∨
      (if s.cfg.lockReengages then some false else s.out.lock) = none ∧
        (if s.cfg.lockReengages then false else s.vec.motorLock) = false := by
    split
    case isTrue => exact .inl rfl
    case isFalse => exact lock
  cases i with
  | setSpeed => exact ⟨dir, en, lock, duty, driven⟩
  | lock | stopProbe => exact ⟨dir, en, released, .inl rfl, freq⟩
  | unlock => exact ⟨dir, en, .inl rfl, .inl rfl, freq⟩
  | setDirection => exact ⟨.inl rfl, en, lock, duty, freq⟩
  | enable => exact ⟨dir, rfl, lock, duty, freq⟩
  | driveProbe => exact ⟨.inl rfl, en, .inl rfl, .inl rfl, driven⟩
  | _ => exact ⟨dir, en, lock, duty, freq⟩

theorem executed_queuesBounded {s : State} (i : Instr) (h : QueuesBounded s) : QueuesBounded (executed i s) := by
  have shorter (queue : List Byte) (le : queue.length ≤ s.cfg.rxDepth) : queue.tail.length ≤ s.cfg.rxDepth := by
    rw [List.length_tail]
    omega
  cases i with
  | ctlRead => exact fun ch => match ch with
    | .ctl => shorter _ (h .ctl)
    | .dbg => h .dbg
  | dbgRead => exact fun ch => match ch with
    | .ctl => h .ctl
    | .dbg => shorter _ (h .dbg)
  | _ => exact h

theorem not_isMoving_of_stopTarget {target : Byte} {m : FsmState} (named : stopTarget target = some m) :
    isMoving m = false := by
  have listed := (stopTarget_eq_some_iff target m).1 named
  simp only [List.mem_cons, Prod.mk.injEq, List.not_mem_nil, or_false] at listed
  rcases listed with ⟨-, rfl⟩ | ⟨-, rfl⟩ | ⟨-, rfl⟩ <;> rfl

/-- DRIVE_PROBE enters a moving state and has checked the enable; STOP_PROBE enters one that does not move. -/
theorem executed_movingEnabled {i : Instr} {s : State} (h : MovingEnabled s) (passes : Passes i s) :
    MovingEnabled (executed i s) := by
  cases i with
  | driveProbe => exact fun _ => passes.1
  | stopProbe target =>
    obtain ⟨m, named, -⟩ := passes
    intro moving
    simp [executed, named, not_isMoving_of_stopTarget named] at moving
  | enable => exact fun _ => rfl
  | _ => exact h

theorem Coherent.executed {i : Instr} {s : State} (h : Coherent s) (passes : Passes i s) :
    Coherent (executed i s) where
  admitted := by rw [executed_cfg]; exact h.admitted
  fault := by rw [FaultListed, executed_fault]; exact h.fault
  result := executed_resultListed i s
  widths := executed_widthsKept i h.widths
  times := executed_timesConsumed h.times passes
  outputs := executed_outputsRecorded i h.outputs
  queues := executed_queuesBounded i h.queues
  moving := executed_movingEnabled h.moving passes

/-! ### The other parts of a step -/

section
variable {s : State} (h : Coherent s)
include h

theorem Coherent.faulted (c : FaultCode) : Coherent { s with fault := c.code } :=
  { h with fault := c.code_range.2 }

theorem Coherent.setLevel (i : Input) (level : Bool) : Coherent (setLevel i level s) :=
  { h with }

theorem Coherent.withPending (rest : List Stimulus) : Coherent (s.withPending rest) :=
  { h with }

theorem Coherent.issue (tx : Transaction) (rest : List Stimulus) : Coherent (issue tx rest s) := by
  obtain ⟨count, frequency, -, output⟩ := h.widths
  exact { h with widths := ⟨count, frequency, Nat.mod_lt _ (Nat.two_pow_pos _), output⟩ }

theorem Coherent.rotate : Coherent (rotate s) := by
  rcases rotate_cases s with ⟨-, same⟩ | ⟨-, rotated⟩
  · rwa [same]
  · obtain ⟨-, frequency, bus, output⟩ := h.widths
    rw [rotated]
    exact { h with widths := ⟨Nat.mod_lt _ (Nat.two_pow_pos _), frequency, bus, output⟩ }

theorem Coherent.hostPush (ch : Channel) (b : Byte) : Coherent (hostPush ch b s) := by
  rcases hostPush_cases s ch b with ⟨-, same⟩ | ⟨-, room, queued⟩ | ⟨-, -, overflows⟩
  · rwa [same]
  · rw [queued]
    refine { h with queues := fun c => ?_ }
    by_cases same : c = ch
    · subst same
      simpa using room
    · simpa [PerChannel.get_set_other _ _ _ _ same] using h.queues c
  · rw [overflows]
    exact h.faulted .rxOverflow

end

theorem coherent_resetWith {cfg : Config} {port : Transaction} (admitted : cfg.Admitted)
    (bus : port.freq < 2 ^ cfg.freqBits) (raw : PerInput Bool) (pending : List Stimulus) :
    Coherent (.resetWith cfg port raw pending) where
  admitted := admitted
  fault := Nat.zero_le _
  result := .inl (Nat.zero_le _)
  widths := ⟨Nat.two_pow_pos _, Nat.two_pow_pos _, bus, nofun⟩
  times i t ht := absurd ((PerInput.get_all none i).symm.trans ht) nofun
  outputs := ⟨.inr ⟨rfl, rfl⟩, rfl, .inr ⟨rfl, rfl⟩, .inr ⟨rfl, rfl⟩, .inr ⟨rfl, rfl⟩⟩
  queues ch := by
    rw [show (State.resetWith cfg port raw pending).rxq.get ch = [] from PerChannel.get_mk_self [] ch]
    exact Nat.zero_le _
  moving := nofun

/-! ### The obligations -/

/-- Settles O54: the deployed widths and depth are one more than a number, so R10 admits them. -/
theorem coherentAtReset : Obligations.CoherentAtReset :=
  have admitted : Config.deployed.Admitted := ⟨Nat.succ_pos _, Nat.succ_pos _, Nat.succ_pos _⟩
  coherent_resetWith admitted (Nat.two_pow_pos _) _ _

/-- Settles O55: each thing a step can do keeps the conditions. -/
theorem coherentKeptByStep : Obligations.CoherentKeptByStep := by
  intro s t h steps
  rcases step_cases s t steps with ⟨-, rfl⟩ | ⟨a, rest, -, effect⟩
  · exact h
  rcases effect with ⟨i, level, -, rfl⟩ | ⟨-, rfl⟩ | ⟨ch, b, -, rfl⟩ | ⟨ch, -, rfl⟩ | ⟨-, rfl⟩ | ⟨tx, -, -, rfl⟩ |
    ⟨tx, e, -, -, -, raised⟩ | ⟨tx, i, -, -, -, executes⟩
  · exact (h.withPending rest).setLevel i level
  · exact (h.withPending rest).rotate
  · exact (h.withPending rest).hostPush ch b
  · exact h.withPending rest
  · obtain ⟨-, -, bus, -⟩ := h.widths
    exact coherent_resetWith h.admitted bus _ _
  · exact h.withPending rest
  · obtain rfl := (raise_eq_next _ _ _).1 raised
    exact (h.issue tx rest).faulted _
  · rcases exec_cases _ _ _ executes with ⟨c, rfl⟩ | ⟨passes, rfl⟩
    · exact (h.issue tx rest).faulted c
    · exact (h.issue tx rest).executed passes

end Sys2Proof.Machine
end

section
/-! PROOFS. What the debouncer's operations guarantee over one sample, two samples and a run of TICKs (`40_debouncer.md`
R121, R127, R128, R130, R131, R136, R137). -/

namespace Sys2Proof.Machine

theorem eq_executed_of_passes {i : Instr} {s t : State} (answers : exec i s = .next t) (passes : Passes i s) :
    t = executed i s :=
  Host.Outcome.next.inj (answers.symm.trans (exec_of_passes i s passes))

/-! ### One input through one sample -/

section
variable {cfg : Config} {levels : PerInput Bool} {sr : PerInput (Option Nat)} {i : Input}

theorem sampledRecords_get_of_active (now : Nat) (active : levels.get i = cfg.activeLevel.get i) :
    (sampledRecords cfg levels now sr).get i = some ((sr.get i).getD now) := by
  rw [sampledRecords_get, updateOne_eq, if_pos active]

theorem sampledRecords_get_of_released (now : Nat) (released : levels.get i ≠ cfg.activeLevel.get i) :
    (sampledRecords cfg levels now sr).get i = none := by
  rw [sampledRecords_get, updateOne_eq, if_neg released]

/-- A second sample of the same levels finds what the first left. -/
theorem sampledRecords_sampledRecords (now later : Nat) :
    sampledRecords cfg levels later (sampledRecords cfg levels now sr) = sampledRecords cfg levels now sr := by
  refine PerInput.ext_get _ _ fun j => ?_
  by_cases active : levels.get j = cfg.activeLevel.get j
  · rw [sampledRecords_get_of_active _ active, sampledRecords_get_of_active _ active, Option.getD_some]
  · rw [sampledRecords_get_of_released _ active, sampledRecords_get_of_released _ active]

theorem debounced_of_none (sent : sr.get i = none) (now : Nat) : debounced sr i now = false := by
  rw [debounced_eq, sent, Option.any_none]

theorem debounced_iff_of_some {since : Nat} (recorded : sr.get i = some since) (now : Nat) :
    debounced sr i now = true ↔ now - since > threshold i := by
  rw [debounced_eq, recorded, Option.any_some, decide_eq_true_iff]

/-- The override apart, `isActive` is the debounced level. -/
theorem isActiveAt_of_no_override (noOverride : i = .jumper → cfg.jumperOverride = false) (now : Nat) :
    isActiveAt cfg sr i now = debounced sr i now := by
  have : (decide (i = .jumper) && cfg.jumperOverride) = false := by simpa using noOverride
  rw [isActiveAt, this, Bool.false_or]

end

theorem threshold_lt_warmup (i : Input) : threshold i < warmup := by
  cases i <;> decide

/-! ### A run of TICKs -/

/-- The block with a tick's NOW and raw levels on its wires. -/
def wired (tick : Nat × PerInput Bool) (s : State) : State :=
  { s with port := { s.port with now := tick.1 }, raw := tick.2 }

/-- One more TICK after an outcome. -/
def runTick (o : Host.Outcome State Fault Refusal) (tick : Nat × PerInput Bool) : Host.Outcome State Fault Refusal :=
  match o with
  | .next v => exec .tick (wired tick v)
  | .fault e => .fault e
  | .refused e => .refused e

/-- The block after a TICK at `now` that saw input `i` active, as it has been since `t0`. -/
structure ActiveSince (cfg : Config) (i : Input) (t0 now : Nat) (s : State) : Prop where
  cfg_eq : s.cfg = cfg
  lastNow : s.lastNow = some now
  record : s.sr.get i = some t0
  flag : s.vec.flags.get i = true ↔ now - t0 > threshold i

section
variable {i : Input} {t0 : Nat}

/-- A TICK that sees the input active starts its record or keeps the one that runs. -/
theorem activeSince_tick {s : State} {tick : Nat × PerInput Bool} (kept : TimeKept (wired tick s))
    (active : tick.2.get i = s.cfg.activeLevel.get i) (start : (s.sr.get i).getD tick.1 = t0)
    (noOverride : i = .jumper → s.cfg.jumperOverride = false) :
    ∃ t, runTick (.next s) tick = .next t ∧ ActiveSince s.cfg i t0 tick.1 t := by
  have record : (sampledRecords s.cfg tick.2 tick.1 s.sr).get i = some t0 :=
    start ▸ sampledRecords_get_of_active tick.1 active
  refine ⟨_, exec_of_passes .tick (wired tick s) kept, rfl, rfl, record, ?_⟩
  rw [← debounced_iff_of_some record, ← isActiveAt_of_no_override noOverride]
  exact iff_of_eq (congrArg (· = true) (PerInput.get_ofFn _ i))

/-- Further TICKs, at times that never decrease and seeing the input active, keep the start of its record. -/
theorem activeSince_ticks {cfg : Config} (noOverride : i = .jumper → cfg.jumperOverride = false)
    {ticks : List (Nat × PerInput Bool)} (active : ∀ tick ∈ ticks, tick.2.get i = cfg.activeLevel.get i)
    {now : Nat} (ordered : (now :: ticks.map Prod.fst).Pairwise (· ≤ ·)) {s : State}
    (h : ActiveSince cfg i t0 now s) :
    ∃ u, ticks.foldl runTick (.next s) = .next u ∧
      ActiveSince cfg i t0 ((ticks.map Prod.fst).getLastD now) u := by
  induction ticks generalizing now s with
  | nil => exact ⟨s, rfl, h⟩
  | cons tick ticks ih =>
    obtain ⟨rfl, last, record, -⟩ := h
    obtain ⟨now_le, ordered⟩ := List.pairwise_cons.1 ordered
    obtain ⟨seen, active⟩ := List.forall_mem_cons.1 active
    have kept : TimeKept (wired tick s) := fun t ht => by
      obtain rfl := Option.some.inj (last.symm.trans ht)
      exact now_le tick.1 List.mem_cons_self
    obtain ⟨t, ran, next⟩ := activeSince_tick kept seen (by rw [record, Option.getD_some]) noOverride
    rw [List.foldl_cons, ran, List.map_cons, List.getLastD_cons]
    exact ih active ordered next

end

/-! ### The obligations -/

/-- Settles O20: as UPDATE_ALL, with two samples; the wait is `warmup` and the drawn excess. -/
theorem initialiseOperation : Obligations.InitialiseOperation := by
  refine ⟨rfl, fun s t2 ht2 => ⟨fun kept => ?_, exec_sampling_of_not_timeKept (.inr (.inl rfl))⟩⟩
  have waitEnd : initialiseEnd s = t2 := by rw [initialiseEnd, warmup_eq, ht2]
  rw [exec_of_passes .initialise s kept, executed, sampledRecords_eq, sampledRecords_eq, waitEnd]
  simp only [PerInput.get_ofFn]
  rfl

/-- Settles O22: the second UPDATE_ALL raises the time fault, or samples the levels the first one sampled. -/
theorem updateAllIsIdempotent : Obligations.UpdateAllIsIdempotent := by
  intro s t u later first _ kept second
  obtain rfl := eq_executed_of_passes first kept
  rcases exec_cases _ _ _ second with ⟨c, rfl⟩ | ⟨-, rfl⟩
  · rfl
  · exact sampledRecords_sampledRecords s.port.now later.now

/-- Settles O23: the first TICK starts the record, and the others keep it. -/
theorem flagRisesAfterThreshold : Obligations.FlagRisesAfterThreshold := by
  intro i ticks t0 s r0 sent noOverride kept ordered active
  obtain ⟨seen, active⟩ := List.forall_mem_cons.1 active
  obtain ⟨t, ran, started⟩ :=
    activeSince_tick (tick := (t0, r0)) kept seen (by rw [sent, Option.getD_none]) noOverride
  obtain ⟨u, runs, finished⟩ := activeSince_ticks noOverride active ordered started
  refine ⟨u, ?_, finished.record, finished.flag⟩
  exact (congrArg (ticks.foldl runTick) ran).trans runs

/-- Settles O24: each of the three ends with a sample of the wires as they then stand. -/
theorem releaseSeenAtSample : Obligations.ReleaseSeenAtSample := by
  intro op s t i hop kept answers released noOverride
  have inactive {sr : PerInput (Option Nat)} (sent : sr.get i = none) (now : Nat) :
      isActiveAt s.cfg sr i now = false :=
    (isActiveAt_of_no_override noOverride now).trans (debounced_of_none sent now)
  rcases hop with rfl | rfl | rfl <;> obtain rfl := eq_executed_of_passes answers kept
  · have sent := sampledRecords_get_of_released (sr := s.sr) s.port.now released
    exact ⟨sent, inactive sent, nofun⟩
  · have sent := sampledRecords_get_of_released (sr := s.sr) s.port.now released
    exact ⟨sent, inactive sent, fun _ => (PerInput.get_ofFn _ i).trans (inactive sent s.port.now)⟩
  · have sent := sampledRecords_get_of_released (sr := sampledRecords s.cfg s.raw s.port.now s.sr) (initialiseEnd s)
      released
    exact ⟨sent, inactive sent, nofun⟩

/-- Settles O25: an input active at both samples has a record no later than NOW, a full warm-up before the end. -/
theorem initialiseGuarantee : Obligations.InitialiseGuarantee := by
  intro s t i t2 consumed kept answers last
  obtain rfl := eq_executed_of_passes answers kept
  obtain rfl : initialiseEnd s = t2 := Option.some.inj last
  have wait : s.port.now + warmup ≤ initialiseEnd s := Nat.le_add_right _ _
  have warm := threshold_lt_warmup i
  refine ⟨warmup_eq ▸ wait, rfl, fun first second => ?_, fun released => ?_, fun first second => ?_⟩
  · obtain ⟨since, record, le⟩ : ∃ since,
        (sampledRecords s.cfg s.raw s.port.now s.sr).get i = some since ∧ since ≤ s.port.now :=
      ⟨_, sampledRecords_get_of_active _ first, (recordsUpTo_now consumed kept).sampled _ _ _ _
        (sampledRecords_get_of_active _ first)⟩
    have final := sampledRecords_get_of_active (initialiseEnd s) second
      (sr := sampledRecords s.cfg s.raw s.port.now s.sr)
    rw [record, Option.getD_some] at final
    exact (debounced_iff_of_some final _).2 (by omega)
  · exact debounced_of_none (sampledRecords_get_of_released _ released)
  · have final := sampledRecords_get_of_active (initialiseEnd s) second
      (sr := sampledRecords s.cfg s.raw s.port.now s.sr)
    rw [sampledRecords_get_of_released _ first, Option.getD_none] at final
    refine ⟨final, Bool.eq_false_iff.2 fun active => ?_⟩
    have := (debounced_iff_of_some final _).1 active
    omega

/-- Settles O26: the time elapsed exceeds the threshold just when NOW exceeds their sum. -/
theorem thresholdIsStrict : Obligations.ThresholdIsStrict := by
  intro sr i t0 now record
  rw [debounced_iff_of_some record]
  omega

/-- Settles O27: the override sets the output of `isActive` and is not read by the sample. -/
theorem jumperOverrideAtOutput : Obligations.JumperOverrideAtOutput := by
  intro s t override kept answers
  obtain rfl := eq_executed_of_passes answers kept
  exact ⟨(isActiveAt_iff _ _ _ _).2 (.inl ⟨rfl, override⟩), updateOne_eq _ _ _ _⟩

end Sys2Proof.Machine
end

section
/-! PROOFS. What the motor's operations and the fixture state machine guarantee over one operation, two operations and one
step (`41_motor.md` R151, R163, `20_memory.md` R74, `42_fsm.md` R184, R196, R200, `10_state.md` R41). -/

namespace Sys2Proof.Machine

/-! ### Frequency, duty and enable -/

/-- One SET_SPEED programs the frequency once if it is new, and not at all otherwise. -/
theorem frequencyCalls_executed_setSpeed (s : State) :
    frequencyCalls (executed .setSpeed s).events =
      frequencyCalls s.events + if s.port.freq = s.vec.pwmFrequency then 0 else 1 := by
  simp only [executed, frequencyCalls, List.countP_append]
  split <;> rfl

/-- No operation takes the enable back (`41_motor.md` R163). -/
theorem executed_enable (i : Instr) (s : State) :
    ((executed i s).vec.motorEnable = s.vec.motorEnable ∨ (executed i s).vec.motorEnable = true) ∧
    ((executed i s).out.en = s.out.en ∨ (executed i s).out.en = some true) := by
  cases i with
  | enable => exact ⟨.inr rfl, .inr rfl⟩
  | _ => exact ⟨.inl rfl, .inl rfl⟩

theorem executed_keeps_stopped {i : Instr} {s : State} (hu : i ≠ .unlock) (hd : ∀ target dir, i ≠ .driveProbe target dir)
    (record : s.vec.motorDuty = false) (output : s.out.duty = some .zero) :
    (executed i s).vec.motorDuty = false ∧ (executed i s).out.duty = some .zero := by
  cases i with
  | unlock => exact absurd rfl hu
  | driveProbe target dir => exact absurd rfl (hd target dir)
  | lock | stopProbe => exact ⟨rfl, rfl⟩
  | _ => exact ⟨record, output⟩

/-- The recorded and driven duty and lock release of a motion. -/
structure InMotion (s : State) : Prop where
  motorDuty : s.vec.motorDuty = true
  outDuty : s.out.duty = some .half
  motorLock : s.vec.motorLock = true
  outLock : s.out.lock = some true

theorem executed_keeps_motion {i : Instr} {s : State} (hl : i ≠ .lock) (hs : ∀ target, i ≠ .stopProbe target)
    (motion : InMotion s) : InMotion (executed i s) := by
  obtain ⟨motorDuty, outDuty, motorLock, outLock⟩ := motion
  cases i with
  | lock => exact absurd rfl hl
  | stopProbe target => exact absurd rfl (hs target)
  | unlock | driveProbe => exact ⟨rfl, rfl, rfl, rfl⟩
  | _ => exact ⟨motorDuty, outDuty, motorLock, outLock⟩

/-! ### The fixture state -/

theorem executed_driveProbe_state {target : Byte} {m : FsmState} (named : moveTarget target = some m) (dir : Dir)
    (s : State) : (executed (.driveProbe target dir) s).vec.state = m := by
  simp [executed, named]

theorem executed_stopProbe_state {target : Byte} {m : FsmState} (named : stopTarget target = some m) (s : State) :
    (executed (.stopProbe target) s).vec.state = m := by
  simp [executed, named]

/-- Only DRIVE_PROBE and STOP_PROBE write the fixture state, and each writes its target. -/
theorem executed_state_cases {i : Instr} {s : State} (passes : Passes i s) :
    (executed i s).vec.state = s.vec.state ∨
    (∃ target dir m, i = .driveProbe target dir ∧ moveTarget target = some m ∧ s.vec.motorEnable = true ∧
      (s.vec.state = .emergencyStop → m = .goingUpAfterEmergency) ∧ (executed i s).vec.state = m) ∨
    ∃ target m, i = .stopProbe target ∧ stopTarget target = some m ∧
      (s.vec.state = .emergencyStop → m = .emergencyStop) ∧ (executed i s).vec.state = m := by
  cases i with
  | driveProbe target dir =>
    obtain ⟨enabled, m, named, recovery⟩ := passes
    exact .inr (.inl ⟨target, dir, m, rfl, named, enabled, recovery, executed_driveProbe_state named dir s⟩)
  | stopProbe target =>
    obtain ⟨m, named, stays⟩ := passes
    exact .inr (.inr ⟨target, m, rfl, named, stays, executed_stopProbe_state named s⟩)
  | _ => exact .inl rfl

theorem moveTarget_ne_init {target : Byte} {m : FsmState} (named : moveTarget target = some m) : m ≠ .init := by
  rintro rfl
  simpa using (moveTarget_eq_some_iff target .init).1 named

theorem stopTarget_ne_init {target : Byte} {m : FsmState} (named : stopTarget target = some m) : m ≠ .init := by
  rintro rfl
  simpa using (stopTarget_eq_some_iff target .init).1 named

/-- GoingUpAfterEmergency is target 6 alone. -/
theorem eq_six_of_moveTarget {target : Byte} (named : moveTarget target = some .goingUpAfterEmergency) :
    target = 6#8 := by
  simpa using (moveTarget_eq_some_iff target _).1 named

/-! ### The obligations -/

/-- Settles O29: the second SET_SPEED finds its frequency recorded. -/
theorem setSpeedTwiceProgramsOnce : Obligations.SetSpeedTwiceProgramsOnce := by
  intro s t u first second
  obtain rfl := eq_executed_of_passes first trivial
  obtain rfl := eq_executed_of_passes second trivial
  have recorded : (executed .setSpeed s).port.freq = (executed .setSpeed s).vec.pwmFrequency := rfl
  rw [frequencyCalls_executed_setSpeed, if_pos recorded, Nat.add_zero, frequencyCalls_executed_setSpeed]

/-- Settles O34: a step leaves the enable untouched, or executes an operation, none of which takes it back. -/
theorem enableNeverRevoked : Obligations.EnableNeverRevoked := by
  intro s t h noReset
  rcases untouched_or_executed h noReset with untouched | ⟨tx, rest, i, -, -, -, -, rfl⟩
  · exact ⟨.inl (by rw [untouched.vec]), .inl (by rw [untouched.out])⟩
  · exact executed_enable i (issue tx rest s)

/-- Settles O35: the duty last written, as a number of the configuration. -/
theorem dutyNumberWritten : Obligations.DutyNumberWritten := by
  refine fun s t => ⟨fun locks => ?_, fun enabled unlocks => ?_⟩
  · obtain rfl := eq_executed_of_passes locks trivial
    rfl
  · obtain rfl := eq_executed_of_passes unlocks enabled
    rfl

/-- Settles O41: from EmergencyStop another target raises; every other transition passes its checks. -/
theorem transitionTable : Obligations.TransitionTable := by
  intro s target dir enabled running
  refine ⟨fun m named => ?_, fun m named => ?_⟩
  · by_cases bypass : s.vec.state = .emergencyStop ∧ m ≠ .goingUpAfterEmergency
    · obtain ⟨stopped, leaves⟩ := bypass
      refine ⟨_, exec_driveProbe_of_bypass named enabled stopped leaves, ?_⟩
      rw [if_pos ⟨stopped, leaves⟩, stopped]
    · refine ⟨_, exec_of_passes (.driveProbe target dir) s ⟨enabled, m, named, by simpa using bypass⟩, ?_⟩
      rw [if_neg bypass, executed_driveProbe_state named, executed_fault, running]
  · by_cases bypass : s.vec.state = .emergencyStop ∧ m ≠ .emergencyStop
    · obtain ⟨stopped, leaves⟩ := bypass
      refine ⟨_, exec_stopProbe_of_bypass named stopped leaves, ?_⟩
      rw [if_pos ⟨stopped, leaves⟩, stopped]
    · refine ⟨_, exec_of_passes (.stopProbe target) s ⟨m, named, by simpa using bypass⟩, ?_⟩
      rw [if_neg bypass, executed_stopProbe_state named, executed_fault, running]

/-- Settles O42: of the operations that write the state, STOP_PROBE has checked that it stays, DRIVE_PROBE that it
recovers. -/
theorem emergencyStopLeftOnlyByRecovery : Obligations.EmergencyStopLeftOnlyByRecovery := by
  intro s t stopped h
  by_cases reset : s.pending.head? = some .hardwareReset
  · exact .inr (.inl reset)
  rcases untouched_or_executed h reset with untouched | ⟨tx, rest, i, pending, running, decodes, passes, rfl⟩
  · exact .inl (by rw [untouched.vec, stopped])
  rcases executed_state_cases passes with same | ⟨target, dir, m, rfl, named, enabled, recovery, arrives⟩ |
    ⟨target, m, rfl, named, stays, arrives⟩
  · exact .inl (same.trans stopped)
  · obtain rfl := recovery stopped
    obtain rfl := eq_six_of_moveTarget named
    exact .inr (.inr ⟨tx, dir, pending, decodes, running, enabled, arrives⟩)
  · exact .inl (arrives.trans (stays stopped))

/-- Settles O43: a target is never Init. -/
theorem initNotReenterable : Obligations.InitNotReenterable := by
  intro s t h noReset
  rcases untouched_or_executed h noReset with untouched | ⟨tx, rest, i, pending, running, decodes, passes, rfl⟩
  · have same : t.vec.state = s.vec.state := by rw [untouched.vec]
    exact ⟨absurd same, same ▸ id⟩
  rcases executed_state_cases passes with same | ⟨target, dir, m, rfl, named, -, -, arrives⟩ |
    ⟨target, m, rfl, named, -, arrives⟩
  · exact ⟨absurd same, same.symm ▸ id⟩
  · exact ⟨fun _ => ⟨tx, target, pending, .inl ⟨dir, decodes⟩⟩, fun _ => arrives ▸ moveTarget_ne_init named⟩
  · exact ⟨fun _ => ⟨tx, target, pending, .inr decodes⟩, fun _ => arrives ▸ stopTarget_ne_init named⟩

/-- Settles O44: a fault writes no duty, and `executed` keeps the one and the other. -/
theorem dutyHeldBetweenMotions : Obligations.DutyHeldBetweenMotions := by
  intro i s t answers
  rcases exec_cases i s t answers with ⟨c, rfl⟩ | ⟨-, rfl⟩
  · exact ⟨fun _ _ record output => ⟨record, output⟩, fun _ _ motorDuty outDuty motorLock outLock =>
      ⟨motorDuty, outDuty, motorLock, outLock⟩⟩
  · refine ⟨executed_keeps_stopped, fun hl hs motorDuty outDuty motorLock outLock => ?_⟩
    have motion := executed_keeps_motion hl hs ⟨motorDuty, outDuty, motorLock, outLock⟩
    exact ⟨motion.motorDuty, motion.outDuty, motion.motorLock, motion.outLock⟩

end Sys2Proof.Machine
end

section
/-! PROOFS. What a dump tells (`43_channels.md` R237, R238) and the order of the control queue (`20_memory.md` R76, R77). -/

namespace Sys2Proof.Machine

/-! ### The length of a dump -/

theorem four_le_length_boolText (b : Bool) : 4 ≤ (boolText b).length := by
  cases b <;> decide

theorem decimal_ne_nil (n : Nat) : decimal n ≠ [] := by
  rw [decimal, Ne, List.reverse_eq_nil_iff]
  cases n <;> exact List.cons_ne_nil _ _

/-! ### The positional parse of a dump -/

/-- The texts of the two Bool values differ in their first byte, so one is read off the front of any bytes. -/
theorem boolText_append_inj {a b : Bool} {x y : List Byte} (h : boolText a ++ x = boolText b ++ y) : a = b ∧ x = y := by
  cases a <;> cases b <;> simp [boolText] at h
  · exact ⟨rfl, h⟩
  · exact ⟨rfl, h⟩

theorem flatMap_boolText_append_inj {as bs : List Bool} (length : as.length = bs.length) {x y : List Byte}
    (h : as.flatMap boolText ++ x = bs.flatMap boolText ++ y) : as = bs ∧ x = y := by
  induction as generalizing bs with
  | nil =>
    obtain rfl := List.length_eq_zero_iff.1 length.symm
    exact ⟨rfl, h⟩
  | cons a as ih =>
    cases bs with
    | nil => cases length
    | cons b bs =>
      simp only [List.flatMap_cons, List.append_assoc] at h
      obtain ⟨rfl, later⟩ := boolText_append_inj h
      obtain ⟨rfl, rest⟩ := ih (Nat.succ.inj length) later
      exact ⟨rfl, rest⟩

theorem decimal_injective : Function.Injective decimal := fun m n h => by
  rw [← value_decimal m, h, value_decimal]

/-- Two lists are equal up to the first occurrence of a separator, and after it. -/
theorem append_sep_inj {α : Type} [DecidableEq α] {sep : α} {as bs x y : List α} (ha : sep ∉ as) (hb : sep ∉ bs)
    (h : as ++ sep :: x = bs ++ sep :: y) : as = bs ∧ x = y := by
  have place := congrArg (List.idxOf sep) h
  rw [List.idxOf_append_of_notMem ha, List.idxOf_append_of_notMem hb, List.idxOf_cons_self, List.idxOf_cons_self] at place
  obtain ⟨before, after⟩ := List.append_inj h place
  exact ⟨before, List.tail_eq_of_cons_eq after⟩

/-- A number ends at the first byte that is no digit. -/
theorem decimal_append_inj {m n : Nat} {sep : Byte} (noDigit : ¬ (0x30 ≤ sep.toNat ∧ sep.toNat ≤ 0x39))
    {x y : List Byte} (h : decimal m ++ sep :: x = decimal n ++ sep :: y) : m = n ∧ x = y := by
  have absent (k : Nat) : sep ∉ decimal k := fun mem => noDigit (decimal_digit_range mem)
  obtain ⟨digits, rest⟩ := append_sep_inj (absent m) (absent n) h
  exact ⟨decimal_injective digits, rest⟩

theorem stateCode_injective : Function.Injective stateCode := fun m n h => by
  revert h
  cases m <;> cases n <;> decide

theorem dirBool_injective : Function.Injective dirBool := fun c d h => by
  revert h
  cases c <;> cases d <;> decide

/-- The ten booleans of a dump are the ten fields. -/
theorem fields_of_dumpBools {v w : StateVector} (h : dumpBools v = dumpBools w) :
    v.flags = w.flags ∧ v.motorDir = w.motorDir ∧ v.motorEnable = w.motorEnable ∧ v.motorLock = w.motorLock ∧
      v.motorDuty = w.motorDuty := by
  simp only [dumpBools, List.cons.injEq] at h
  obtain ⟨jumper, debugButton, extremeUp, up, down, safety, dir, enable, lock, duty, -⟩ := h
  exact ⟨PerInput.ext jumper debugButton extremeUp up down safety, dirBool_injective dir, enable, lock, duty⟩

/-! ### The control queue -/

theorem run_succ {s t : State} (h : step s = .next t) (k : Nat) :
    Host.Core.run Sys2Proof.core (k + 1) s = Host.Core.run Sys2Proof.core k t := by
  have : Sys2Proof.core.step s = .next t := h
  simp only [Host.Core.run, this]

/-- Pushes into a queue with room for them append their bytes. -/
theorem run_pushes (bytes : List Byte) (rest : List Stimulus) (k : Nat) {s : State} (running : s.fault = 0x00#8)
    (room : s.rxq.ctl.length + bytes.length ≤ s.cfg.rxDepth)
    (pending : s.pending = bytes.map (.hostPush .ctl) ++ rest) :
    Host.Core.run Sys2Proof.core (bytes.length + k) s =
      Host.Core.run Sys2Proof.core k
        { s with rxq := { s.rxq with ctl := s.rxq.ctl ++ bytes }, pending := rest } := by
  induction bytes generalizing s with
  | nil =>
    obtain rfl : s.pending = rest := pending
    rw [List.append_nil, List.length_nil, Nat.zero_add]
  | cons b bytes ih =>
    rw [List.length_cons] at room
    have fits : (s.rxq.get .ctl).length < s.cfg.rxDepth := show s.rxq.ctl.length < s.cfg.rxDepth by omega
    have pushed := (hostPushQueuesOrOverflows s .ctl b _ running pending).1 fits
    have queued : (s.rxq.ctl ++ [b]).length + bytes.length ≤ s.cfg.rxDepth := by
      rw [List.length_append, List.length_singleton]
      omega
    rw [List.length_cons, Nat.add_right_comm, List.append_cons]
    exact (run_succ pushed _).trans (ih running queued rfl)

/-- The block after a CTL_READ has taken `b` and left `rest` in the queue. -/
def afterCtlRead (b : Byte) (rest : List Byte) (s : State) : State :=
  { s with
    rxq := { s.rxq with ctl := rest }, events := s.events ++ [.rxTake .ctl b], res := b.setWidth 16 }

/-- As many reads as the queue holds bytes take them in order. -/
theorem run_reads {tx : Transaction} (decodes : decode tx.word = .ok .ctlRead) (bytes : List Byte) {s : State}
    (running : s.fault = 0x00#8) (queue : s.rxq.ctl = bytes)
    (pending : s.pending = bytes.map fun _ => .operation tx) :
    ∃ t, Host.Core.run Sys2Proof.core bytes.length s = .next t ∧ t.pending = [] ∧ t.rxq.ctl = [] ∧
      t.events = s.events ++ bytes.map (.rxTake .ctl) := by
  induction bytes generalizing s with
  | nil => exact ⟨s, rfl, pending, queue, (List.append_nil _).symm⟩
  | cons b bytes ih =>
    have issued : step s = exec .ctlRead (issue tx (bytes.map fun _ => .operation tx) s) :=
      step_operation running pending decodes
    have taken := issued.trans ((ctlReadOperation.2 _).1 b bytes queue)
    obtain ⟨t, ran, done, empty, events⟩ :=
      ih (s := afterCtlRead b bytes (issue tx (bytes.map fun _ => .operation tx) s)) running rfl rfl
    exact ⟨t, (run_succ taken _).trans ran, done, empty, events.trans (List.append_cons _ _ _).symm⟩

/-! ### The obligations -/

/-- Settles O51: each of the ten texts has at least four bytes and each number at least one. -/
theorem dumpLength : Obligations.DumpLength := by
  intro term v
  have length : (serialize term v).length =
      1 + 1 + ((dumpBools v).map fun b => (boolText b).length).sum + 1 + (decimal v.pwmFrequency).length + 1 +
        (decimal v.count).length + 1 + (terminatorBytes term).length := by
    simp [serialize, List.length_flatMap]
    omega
  refine ⟨length, ?_⟩
  have texts : 40 ≤ ((dumpBools v).map fun b => (boolText b).length).sum := by
    have := List.card_nsmul_le_sum ((dumpBools v).map fun b => (boolText b).length) 4
      (List.forall_mem_map.2 fun b _ => four_le_length_boolText b)
    simpa [dumpBools] using this
  have frequency := List.length_pos_of_ne_nil (decimal_ne_nil v.pwmFrequency)
  have count := List.length_pos_of_ne_nil (decimal_ne_nil v.count)
  omega

/-- Settles O52: code, booleans, frequency and count are read off the dump from left to right. -/
theorem dumpDeterminesVector : Obligations.DumpDeterminesVector := by
  intro term v w h
  simp only [serialize, List.append_assoc, List.cons_append, List.nil_append, List.cons.injEq, true_and] at h
  obtain ⟨code, h⟩ := h
  have tenEach : (dumpBools v).length = (dumpBools w).length := rfl
  obtain ⟨bools, h⟩ := flatMap_boolText_append_inj tenEach h
  obtain ⟨frequency, h⟩ := decimal_append_inj (by decide) (List.tail_eq_of_cons_eq h)
  obtain ⟨count, -⟩ := decimal_append_inj (by decide) h
  obtain ⟨flags, dir, enable, lock, duty⟩ := fields_of_dumpBools bools
  have state := stateCode_injective code
  cases v
  cases w
  rw [StateVector.mk.injEq]
  exact ⟨state, count, frequency, flags, dir, enable, lock, duty⟩

/-- Settles O53: the pushes fill the queue with the bytes, and the reads empty it from its head. -/
theorem controlQueueIsFifo : Obligations.ControlQueueIsFifo := by
  intro bytes s running empty room pending
  have fits : s.rxq.ctl.length + bytes.length ≤ s.cfg.rxDepth := by rwa [empty, List.length_nil, Nat.zero_add]
  rw [run_pushes bytes _ bytes.length running fits pending]
  exact run_reads (tx := { s.port with word := encode .ctlRead }) (decodeOfEncode .ctlRead) bytes running
    (by rw [empty, List.nil_append]) rfl

end Sys2Proof.Machine
end
